-- ==== Sys2Proof/Word.lean ====
section
/-! DEFINITION. The data widths of the core (spec/00_scope.md R4): a byte is 8 bits, a word (PC, SP and every
address) is 16 bits. Helpers over them stand in Machine/Bits.lean. -/

namespace Sys2Proof

/-- `XLEN8`, the byte size: 8 bits (R4). -/
abbrev Byte := BitVec 8

/-- `XLEN16`, the width of PC, SP and of every address: 16 bits (R4). -/
abbrev Word := BitVec 16

end Sys2Proof
end

