-- ==== Sys2Proof/Syntax.lean ====
section
/-! DEFINITION. The instruction set as data: one constructor of `Instr` per row of spec/opcode_table.json, each with
its operand bytes (the rows with operand bytes first, then the others, each part in the table's order); and, per family, the constructor that given operands select, so that
one line can speak of a whole family. -/

namespace Sys2Proof

/-- The seven registers an 8-bit register code selects (spec/30_encoding.md R62; code 6 is the byte at HL). -/
inductive R8 where
  | b | c | d | e | h | l | a
  deriving DecidableEq, Repr

/-- What a 3-bit register code selects (R62): a register, or for code 6 the byte at address HL. -/
inductive Operand8 where
  | reg (r : R8)
  | atHl
  deriving DecidableEq, Repr

/-- `rp`, the pair operands of LD rr,nn, ADD HL,rr, INC rr, DEC rr (R63). -/
inductive Rp where
  | bc | de | hl | sp
  deriving DecidableEq, Repr

/-- `rp2`, the pair operands of PUSH and POP (R63). -/
inductive Rp2 where
  | bc | de | hl | af
  deriving DecidableEq, Repr

/-- The condition codes (R64). -/
inductive Cond where
  | nz | z | nc | c
  deriving DecidableEq, Repr

/-- The eight accumulator operations, in the order of their 3-bit code (R68, R100). -/
inductive AluOp where
  | add | adc | sub | sbc | and | xor | or | cp
  deriving DecidableEq, Repr

/-- The eight CB rotate and shift operations, in the order of their 3-bit code (R69, R149). -/
inductive ShiftOp where
  | rlc | rrc | rl | rr | sla | sra | swap | srl
  deriving DecidableEq, Repr

/-- The instructions. `n` and `e` are the operand byte (unsigned, signed), `nn` the 16-bit operand (R65).
Constructors whose name holds `At` address memory: `AtHl` is `(HL)`, `AtNn` is `(nn)`. -/
inductive Instr where
  /-- `LD BC,nn`, 01 nn-low nn-high (R193) -/
  | ldBcNn (nn : Word)
  /-- `LD B,n`, 06 n (R183) -/
  | ldBN (n : Byte)
  /-- `LD (nn),SP`, 08 nn-low nn-high (R203) -/
  | ldAtNnSp (nn : Word)
  /-- `LD C,n`, 0E n (R183) -/
  | ldCN (n : Byte)
  /-- `DJNZ e`, 10 e (R226) -/
  | djnzE (e : Byte)
  /-- `LD DE,nn`, 11 nn-low nn-high (R193) -/
  | ldDeNn (nn : Word)
  /-- `LD D,n`, 16 n (R183) -/
  | ldDN (n : Byte)
  /-- `JR e`, 18 e (R224) -/
  | jrE (e : Byte)
  /-- `LD E,n`, 1E n (R183) -/
  | ldEN (n : Byte)
  /-- `JR NZ,e`, 20 e (R225) -/
  | jrNzE (e : Byte)
  /-- `LD HL,nn`, 21 nn-low nn-high (R193) -/
  | ldHlNn (nn : Word)
  /-- `LD H,n`, 26 n (R183) -/
  | ldHN (n : Byte)
  /-- `JR Z,e`, 28 e (R225) -/
  | jrZE (e : Byte)
  /-- `LD L,n`, 2E n (R183) -/
  | ldLN (n : Byte)
  /-- `JR NC,e`, 30 e (R225) -/
  | jrNcE (e : Byte)
  /-- `LD SP,nn`, 31 nn-low nn-high (R194) -/
  | ldSpNn (nn : Word)
  /-- `LD (HL),n`, 36 n (R184) -/
  | ldAtHlN (n : Byte)
  /-- `JR C,e`, 38 e (R225) -/
  | jrCE (e : Byte)
  /-- `LD A,n`, 3E n (R183) -/
  | ldAN (n : Byte)
  /-- `JP NZ,nn`, C2 nn-low nn-high (R222) -/
  | jpNzNn (nn : Word)
  /-- `JP nn`, C3 nn-low nn-high (R221) -/
  | jpNn (nn : Word)
  /-- `CALL NZ,nn`, C4 nn-low nn-high (R228) -/
  | callNzNn (nn : Word)
  /-- `ADD A,n`, C6 n (R103) -/
  | addAN (n : Byte)
  /-- `JP Z,nn`, CA nn-low nn-high (R222) -/
  | jpZNn (nn : Word)
  /-- `PREFIX CB`, CB, opcode2 (R83) -/
  | prefixCb (opcode2 : Byte)
  /-- `CALL Z,nn`, CC nn-low nn-high (R228) -/
  | callZNn (nn : Word)
  /-- `CALL nn`, CD nn-low nn-high (R227) -/
  | callNn (nn : Word)
  /-- `ADC A,n`, CE n (R106) -/
  | adcAN (n : Byte)
  /-- `JP NC,nn`, D2 nn-low nn-high (R222) -/
  | jpNcNn (nn : Word)
  /-- `CALL NC,nn`, D4 nn-low nn-high (R228) -/
  | callNcNn (nn : Word)
  /-- `SUB n`, D6 n (R109) -/
  | subN (n : Byte)
  /-- `JP C,nn`, DA nn-low nn-high (R222) -/
  | jpCNn (nn : Word)
  /-- `CALL C,nn`, DC nn-low nn-high (R228) -/
  | callCNn (nn : Word)
  /-- `SBC A,n`, DE n (R112) -/
  | sbcAN (n : Byte)
  /-- `LDH (n),A`, E0 n (R197) -/
  | ldhAtNA (n : Byte)
  /-- `AND n`, E6 n (R115) -/
  | andN (n : Byte)
  /-- `ADD SP,e`, E8 e (R146) -/
  | addSpE (e : Byte)
  /-- `LD (nn),A`, EA nn-low nn-high (R195) -/
  | ldAtNnA (nn : Word)
  /-- `XOR n`, EE n (R118) -/
  | xorN (n : Byte)
  /-- `LDH A,(n)`, F0 n (R198) -/
  | ldhAAtN (n : Byte)
  /-- `OR n`, F6 n (R121) -/
  | orN (n : Byte)
  /-- `LD HL,SP+e`, F8 e (R201) -/
  | ldHlSpE (e : Byte)
  /-- `LD A,(nn)`, FA nn-low nn-high (R196) -/
  | ldAAtNn (nn : Word)
  /-- `CP n`, FE n (R124) -/
  | cpN (n : Byte)
  /-- `NOP`, 00 (R233) -/
  | nop
  /-- `LD (BC),A`, 02 (R187) -/
  | ldAtBcA
  /-- `INC BC`, 03 (R142) -/
  | incBc
  /-- `INC B`, 04 (R125) -/
  | incB
  /-- `DEC B`, 05 (R127) -/
  | decB
  /-- `RLCA`, 07 (R150) -/
  | rlca
  /-- `ADD HL,BC`, 09 (R140) -/
  | addHlBc
  /-- `LD A,(BC)`, 0A (R185) -/
  | ldAAtBc
  /-- `DEC BC`, 0B (R144) -/
  | decBc
  /-- `INC C`, 0C (R125) -/
  | incC
  /-- `DEC C`, 0D (R127) -/
  | decC
  /-- `RRCA`, 0F (R152) -/
  | rrca
  /-- `LD (DE),A`, 12 (R188) -/
  | ldAtDeA
  /-- `INC DE`, 13 (R142) -/
  | incDe
  /-- `INC D`, 14 (R125) -/
  | incD
  /-- `DEC D`, 15 (R127) -/
  | decD
  /-- `RLA`, 17 (R151) -/
  | rla
  /-- `ADD HL,DE`, 19 (R140) -/
  | addHlDe
  /-- `LD A,(DE)`, 1A (R186) -/
  | ldAAtDe
  /-- `DEC DE`, 1B (R144) -/
  | decDe
  /-- `INC E`, 1C (R125) -/
  | incE
  /-- `DEC E`, 1D (R127) -/
  | decE
  /-- `RRA`, 1F (R153) -/
  | rra
  /-- `LD (HL+),A`, 22 (R189) -/
  | ldAtHlIncA
  /-- `INC HL`, 23 (R142) -/
  | incHl
  /-- `INC H`, 24 (R125) -/
  | incH
  /-- `DEC H`, 25 (R127) -/
  | decH
  /-- `DAA`, 27 (R132) -/
  | daa
  /-- `ADD HL,HL`, 29 (R140) -/
  | addHlHl
  /-- `LD A,(HL+)`, 2A (R190) -/
  | ldAAtHlInc
  /-- `DEC HL`, 2B (R144) -/
  | decHl
  /-- `INC L`, 2C (R125) -/
  | incL
  /-- `DEC L`, 2D (R127) -/
  | decL
  /-- `CPL`, 2F (R129) -/
  | cpl
  /-- `LD (HL-),A`, 32 (R191) -/
  | ldAtHlDecA
  /-- `INC SP`, 33 (R143) -/
  | incSp
  /-- `INC (HL)`, 34 (R126) -/
  | incAtHl
  /-- `DEC (HL)`, 35 (R128) -/
  | decAtHl
  /-- `SCF`, 37 (R131) -/
  | scf
  /-- `ADD HL,SP`, 39 (R141) -/
  | addHlSp
  /-- `LD A,(HL-)`, 3A (R192) -/
  | ldAAtHlDec
  /-- `DEC SP`, 3B (R145) -/
  | decSp
  /-- `INC A`, 3C (R125) -/
  | incA
  /-- `DEC A`, 3D (R127) -/
  | decA
  /-- `CCF`, 3F (R130) -/
  | ccf
  /-- `LD B,B`, 40 (R180) -/
  | ldBB
  /-- `LD B,C`, 41 (R180) -/
  | ldBC
  /-- `LD B,D`, 42 (R180) -/
  | ldBD
  /-- `LD B,E`, 43 (R180) -/
  | ldBE
  /-- `LD B,H`, 44 (R180) -/
  | ldBH
  /-- `LD B,L`, 45 (R180) -/
  | ldBL
  /-- `LD B,(HL)`, 46 (R181) -/
  | ldBAtHl
  /-- `LD B,A`, 47 (R180) -/
  | ldBA
  /-- `LD C,B`, 48 (R180) -/
  | ldCB
  /-- `LD C,C`, 49 (R180) -/
  | ldCC
  /-- `LD C,D`, 4A (R180) -/
  | ldCD
  /-- `LD C,E`, 4B (R180) -/
  | ldCE
  /-- `LD C,H`, 4C (R180) -/
  | ldCH
  /-- `LD C,L`, 4D (R180) -/
  | ldCL
  /-- `LD C,(HL)`, 4E (R181) -/
  | ldCAtHl
  /-- `LD C,A`, 4F (R180) -/
  | ldCA
  /-- `LD D,B`, 50 (R180) -/
  | ldDB
  /-- `LD D,C`, 51 (R180) -/
  | ldDC
  /-- `LD D,D`, 52 (R180) -/
  | ldDD
  /-- `LD D,E`, 53 (R180) -/
  | ldDE
  /-- `LD D,H`, 54 (R180) -/
  | ldDH
  /-- `LD D,L`, 55 (R180) -/
  | ldDL
  /-- `LD D,(HL)`, 56 (R181) -/
  | ldDAtHl
  /-- `LD D,A`, 57 (R180) -/
  | ldDA
  /-- `LD E,B`, 58 (R180) -/
  | ldEB
  /-- `LD E,C`, 59 (R180) -/
  | ldEC
  /-- `LD E,D`, 5A (R180) -/
  | ldED
  /-- `LD E,E`, 5B (R180) -/
  | ldEE
  /-- `LD E,H`, 5C (R180) -/
  | ldEH
  /-- `LD E,L`, 5D (R180) -/
  | ldEL
  /-- `LD E,(HL)`, 5E (R181) -/
  | ldEAtHl
  /-- `LD E,A`, 5F (R180) -/
  | ldEA
  /-- `LD H,B`, 60 (R180) -/
  | ldHB
  /-- `LD H,C`, 61 (R180) -/
  | ldHC
  /-- `LD H,D`, 62 (R180) -/
  | ldHD
  /-- `LD H,E`, 63 (R180) -/
  | ldHE
  /-- `LD H,H`, 64 (R180) -/
  | ldHH
  /-- `LD H,L`, 65 (R180) -/
  | ldHL
  /-- `LD H,(HL)`, 66 (R181) -/
  | ldHAtHl
  /-- `LD H,A`, 67 (R180) -/
  | ldHA
  /-- `LD L,B`, 68 (R180) -/
  | ldLB
  /-- `LD L,C`, 69 (R180) -/
  | ldLC
  /-- `LD L,D`, 6A (R180) -/
  | ldLD
  /-- `LD L,E`, 6B (R180) -/
  | ldLE
  /-- `LD L,H`, 6C (R180) -/
  | ldLH
  /-- `LD L,L`, 6D (R180) -/
  | ldLL
  /-- `LD L,(HL)`, 6E (R181) -/
  | ldLAtHl
  /-- `LD L,A`, 6F (R180) -/
  | ldLA
  /-- `LD (HL),B`, 70 (R182) -/
  | ldAtHlB
  /-- `LD (HL),C`, 71 (R182) -/
  | ldAtHlC
  /-- `LD (HL),D`, 72 (R182) -/
  | ldAtHlD
  /-- `LD (HL),E`, 73 (R182) -/
  | ldAtHlE
  /-- `LD (HL),H`, 74 (R182) -/
  | ldAtHlH
  /-- `LD (HL),L`, 75 (R182) -/
  | ldAtHlL
  /-- `HALT`, 76 (R234) -/
  | halt
  /-- `LD (HL),A`, 77 (R182) -/
  | ldAtHlA
  /-- `LD A,B`, 78 (R180) -/
  | ldAB
  /-- `LD A,C`, 79 (R180) -/
  | ldAC
  /-- `LD A,D`, 7A (R180) -/
  | ldAD
  /-- `LD A,E`, 7B (R180) -/
  | ldAE
  /-- `LD A,H`, 7C (R180) -/
  | ldAH
  /-- `LD A,L`, 7D (R180) -/
  | ldAL
  /-- `LD A,(HL)`, 7E (R181) -/
  | ldAAtHl
  /-- `LD A,A`, 7F (R180) -/
  | ldAA
  /-- `ADD A,B`, 80 (R101) -/
  | addAB
  /-- `ADD A,C`, 81 (R101) -/
  | addAC
  /-- `ADD A,D`, 82 (R101) -/
  | addAD
  /-- `ADD A,E`, 83 (R101) -/
  | addAE
  /-- `ADD A,H`, 84 (R101) -/
  | addAH
  /-- `ADD A,L`, 85 (R101) -/
  | addAL
  /-- `ADD A,(HL)`, 86 (R102) -/
  | addAAtHl
  /-- `ADD A,A`, 87 (R101) -/
  | addAA
  /-- `ADC A,B`, 88 (R104) -/
  | adcAB
  /-- `ADC A,C`, 89 (R104) -/
  | adcAC
  /-- `ADC A,D`, 8A (R104) -/
  | adcAD
  /-- `ADC A,E`, 8B (R104) -/
  | adcAE
  /-- `ADC A,H`, 8C (R104) -/
  | adcAH
  /-- `ADC A,L`, 8D (R104) -/
  | adcAL
  /-- `ADC A,(HL)`, 8E (R105) -/
  | adcAAtHl
  /-- `ADC A,A`, 8F (R104) -/
  | adcAA
  /-- `SUB B`, 90 (R107) -/
  | subB
  /-- `SUB C`, 91 (R107) -/
  | subC
  /-- `SUB D`, 92 (R107) -/
  | subD
  /-- `SUB E`, 93 (R107) -/
  | subE
  /-- `SUB H`, 94 (R107) -/
  | subH
  /-- `SUB L`, 95 (R107) -/
  | subL
  /-- `SUB (HL)`, 96 (R108) -/
  | subAtHl
  /-- `SUB A`, 97 (R107) -/
  | subA
  /-- `SBC A,B`, 98 (R110) -/
  | sbcAB
  /-- `SBC A,C`, 99 (R110) -/
  | sbcAC
  /-- `SBC A,D`, 9A (R110) -/
  | sbcAD
  /-- `SBC A,E`, 9B (R110) -/
  | sbcAE
  /-- `SBC A,H`, 9C (R110) -/
  | sbcAH
  /-- `SBC A,L`, 9D (R110) -/
  | sbcAL
  /-- `SBC A,(HL)`, 9E (R111) -/
  | sbcAAtHl
  /-- `SBC A,A`, 9F (R110) -/
  | sbcAA
  /-- `AND B`, A0 (R113) -/
  | andB
  /-- `AND C`, A1 (R113) -/
  | andC
  /-- `AND D`, A2 (R113) -/
  | andD
  /-- `AND E`, A3 (R113) -/
  | andE
  /-- `AND H`, A4 (R113) -/
  | andH
  /-- `AND L`, A5 (R113) -/
  | andL
  /-- `AND (HL)`, A6 (R114) -/
  | andAtHl
  /-- `AND A`, A7 (R113) -/
  | andA
  /-- `XOR B`, A8 (R116) -/
  | xorB
  /-- `XOR C`, A9 (R116) -/
  | xorC
  /-- `XOR D`, AA (R116) -/
  | xorD
  /-- `XOR E`, AB (R116) -/
  | xorE
  /-- `XOR H`, AC (R116) -/
  | xorH
  /-- `XOR L`, AD (R116) -/
  | xorL
  /-- `XOR (HL)`, AE (R117) -/
  | xorAtHl
  /-- `XOR A`, AF (R116) -/
  | xorA
  /-- `OR B`, B0 (R119) -/
  | orB
  /-- `OR C`, B1 (R119) -/
  | orC
  /-- `OR D`, B2 (R119) -/
  | orD
  /-- `OR E`, B3 (R119) -/
  | orE
  /-- `OR H`, B4 (R119) -/
  | orH
  /-- `OR L`, B5 (R119) -/
  | orL
  /-- `OR (HL)`, B6 (R120) -/
  | orAtHl
  /-- `OR A`, B7 (R119) -/
  | orA
  /-- `CP B`, B8 (R122) -/
  | cpB
  /-- `CP C`, B9 (R122) -/
  | cpC
  /-- `CP D`, BA (R122) -/
  | cpD
  /-- `CP E`, BB (R122) -/
  | cpE
  /-- `CP H`, BC (R122) -/
  | cpH
  /-- `CP L`, BD (R122) -/
  | cpL
  /-- `CP (HL)`, BE (R123) -/
  | cpAtHl
  /-- `CP A`, BF (R122) -/
  | cpA
  /-- `RET NZ`, C0 (R230) -/
  | retNz
  /-- `POP BC`, C1 (R206) -/
  | popBc
  /-- `PUSH BC`, C5 (R204) -/
  | pushBc
  /-- `RST 00H`, C7 (R232) -/
  | rst00
  /-- `RET Z`, C8 (R230) -/
  | retZ
  /-- `RET`, C9 (R229) -/
  | ret
  /-- `RST 08H`, CF (R232) -/
  | rst08
  /-- `RET NC`, D0 (R230) -/
  | retNc
  /-- `POP DE`, D1 (R206) -/
  | popDe
  /-- `ILLEGAL (0xD3)`, D3 (R84) -/
  | illegalD3
  /-- `PUSH DE`, D5 (R204) -/
  | pushDe
  /-- `RST 10H`, D7 (R232) -/
  | rst10
  /-- `RET C`, D8 (R230) -/
  | retC
  /-- `RETI`, D9 (R231) -/
  | reti
  /-- `ILLEGAL (0xDB)`, DB (R84) -/
  | illegalDB
  /-- `ILLEGAL (0xDD)`, DD (R84) -/
  | illegalDD
  /-- `RST 18H`, DF (R232) -/
  | rst18
  /-- `POP HL`, E1 (R206) -/
  | popHl
  /-- `LD (C),A`, E2 (R199) -/
  | ldAtCA
  /-- `ILLEGAL (0xE3)`, E3 (R84) -/
  | illegalE3
  /-- `ILLEGAL (0xE4)`, E4 (R84) -/
  | illegalE4
  /-- `PUSH HL`, E5 (R204) -/
  | pushHl
  /-- `RST 20H`, E7 (R232) -/
  | rst20
  /-- `JP (HL)`, E9 (R223) -/
  | jpHl
  /-- `ILLEGAL (0xEB)`, EB (R84) -/
  | illegalEB
  /-- `ILLEGAL (0xEC)`, EC (R84) -/
  | illegalEC
  /-- `ILLEGAL (0xED)`, ED (R84) -/
  | illegalED
  /-- `RST 28H`, EF (R232) -/
  | rst28
  /-- `POP AF`, F1 (R207) -/
  | popAf
  /-- `LD A,(C)`, F2 (R200) -/
  | ldAAtC
  /-- `DI`, F3 (R235) -/
  | di
  /-- `ILLEGAL (0xF4)`, F4 (R84) -/
  | illegalF4
  /-- `PUSH AF`, F5 (R205) -/
  | pushAf
  /-- `RST 30H`, F7 (R232) -/
  | rst30
  /-- `LD SP,HL`, F9 (R202) -/
  | ldSpHl
  /-- `EI`, FB (R236) -/
  | ei
  /-- `ILLEGAL (0xFC)`, FC (R84) -/
  | illegalFC
  /-- `ILLEGAL (0xFD)`, FD (R84) -/
  | illegalFD
  /-- `RST 38H`, FF (R232) -/
  | rst38
  /-- `RLC B`, CB 00 (R154) -/
  | rlcB
  /-- `RLC C`, CB 01 (R154) -/
  | rlcC
  /-- `RLC D`, CB 02 (R154) -/
  | rlcD
  /-- `RLC E`, CB 03 (R154) -/
  | rlcE
  /-- `RLC H`, CB 04 (R154) -/
  | rlcH
  /-- `RLC L`, CB 05 (R154) -/
  | rlcL
  /-- `RLC (HL)`, CB 06 (R155) -/
  | rlcAtHl
  /-- `RLC A`, CB 07 (R154) -/
  | rlcA
  /-- `RRC B`, CB 08 (R156) -/
  | rrcB
  /-- `RRC C`, CB 09 (R156) -/
  | rrcC
  /-- `RRC D`, CB 0A (R156) -/
  | rrcD
  /-- `RRC E`, CB 0B (R156) -/
  | rrcE
  /-- `RRC H`, CB 0C (R156) -/
  | rrcH
  /-- `RRC L`, CB 0D (R156) -/
  | rrcL
  /-- `RRC (HL)`, CB 0E (R157) -/
  | rrcAtHl
  /-- `RRC A`, CB 0F (R156) -/
  | rrcA
  /-- `RL B`, CB 10 (R158) -/
  | rlB
  /-- `RL C`, CB 11 (R158) -/
  | rlC
  /-- `RL D`, CB 12 (R158) -/
  | rlD
  /-- `RL E`, CB 13 (R158) -/
  | rlE
  /-- `RL H`, CB 14 (R158) -/
  | rlH
  /-- `RL L`, CB 15 (R158) -/
  | rlL
  /-- `RL (HL)`, CB 16 (R159) -/
  | rlAtHl
  /-- `RL A`, CB 17 (R158) -/
  | rlA
  /-- `RR B`, CB 18 (R160) -/
  | rrB
  /-- `RR C`, CB 19 (R160) -/
  | rrC
  /-- `RR D`, CB 1A (R160) -/
  | rrD
  /-- `RR E`, CB 1B (R160) -/
  | rrE
  /-- `RR H`, CB 1C (R160) -/
  | rrH
  /-- `RR L`, CB 1D (R160) -/
  | rrL
  /-- `RR (HL)`, CB 1E (R161) -/
  | rrAtHl
  /-- `RR A`, CB 1F (R160) -/
  | rrA
  /-- `SLA B`, CB 20 (R162) -/
  | slaB
  /-- `SLA C`, CB 21 (R162) -/
  | slaC
  /-- `SLA D`, CB 22 (R162) -/
  | slaD
  /-- `SLA E`, CB 23 (R162) -/
  | slaE
  /-- `SLA H`, CB 24 (R162) -/
  | slaH
  /-- `SLA L`, CB 25 (R162) -/
  | slaL
  /-- `SLA (HL)`, CB 26 (R163) -/
  | slaAtHl
  /-- `SLA A`, CB 27 (R162) -/
  | slaA
  /-- `SRA B`, CB 28 (R164) -/
  | sraB
  /-- `SRA C`, CB 29 (R164) -/
  | sraC
  /-- `SRA D`, CB 2A (R164) -/
  | sraD
  /-- `SRA E`, CB 2B (R164) -/
  | sraE
  /-- `SRA H`, CB 2C (R164) -/
  | sraH
  /-- `SRA L`, CB 2D (R164) -/
  | sraL
  /-- `SRA (HL)`, CB 2E (R165) -/
  | sraAtHl
  /-- `SRA A`, CB 2F (R164) -/
  | sraA
  /-- `SWAP B`, CB 30 (R166) -/
  | swapB
  /-- `SWAP C`, CB 31 (R166) -/
  | swapC
  /-- `SWAP D`, CB 32 (R166) -/
  | swapD
  /-- `SWAP E`, CB 33 (R166) -/
  | swapE
  /-- `SWAP H`, CB 34 (R166) -/
  | swapH
  /-- `SWAP L`, CB 35 (R166) -/
  | swapL
  /-- `SWAP (HL)`, CB 36 (R167) -/
  | swapAtHl
  /-- `SWAP A`, CB 37 (R166) -/
  | swapA
  /-- `SRL B`, CB 38 (R168) -/
  | srlB
  /-- `SRL C`, CB 39 (R168) -/
  | srlC
  /-- `SRL D`, CB 3A (R168) -/
  | srlD
  /-- `SRL E`, CB 3B (R168) -/
  | srlE
  /-- `SRL H`, CB 3C (R168) -/
  | srlH
  /-- `SRL L`, CB 3D (R168) -/
  | srlL
  /-- `SRL (HL)`, CB 3E (R169) -/
  | srlAtHl
  /-- `SRL A`, CB 3F (R168) -/
  | srlA
  /-- `BIT 0,B`, CB 40 (R170) -/
  | bit0B
  /-- `BIT 0,C`, CB 41 (R170) -/
  | bit0C
  /-- `BIT 0,D`, CB 42 (R170) -/
  | bit0D
  /-- `BIT 0,E`, CB 43 (R170) -/
  | bit0E
  /-- `BIT 0,H`, CB 44 (R170) -/
  | bit0H
  /-- `BIT 0,L`, CB 45 (R170) -/
  | bit0L
  /-- `BIT 0,(HL)`, CB 46 (R171) -/
  | bit0AtHl
  /-- `BIT 0,A`, CB 47 (R170) -/
  | bit0A
  /-- `BIT 1,B`, CB 48 (R170) -/
  | bit1B
  /-- `BIT 1,C`, CB 49 (R170) -/
  | bit1C
  /-- `BIT 1,D`, CB 4A (R170) -/
  | bit1D
  /-- `BIT 1,E`, CB 4B (R170) -/
  | bit1E
  /-- `BIT 1,H`, CB 4C (R170) -/
  | bit1H
  /-- `BIT 1,L`, CB 4D (R170) -/
  | bit1L
  /-- `BIT 1,(HL)`, CB 4E (R171) -/
  | bit1AtHl
  /-- `BIT 1,A`, CB 4F (R170) -/
  | bit1A
  /-- `BIT 2,B`, CB 50 (R170) -/
  | bit2B
  /-- `BIT 2,C`, CB 51 (R170) -/
  | bit2C
  /-- `BIT 2,D`, CB 52 (R170) -/
  | bit2D
  /-- `BIT 2,E`, CB 53 (R170) -/
  | bit2E
  /-- `BIT 2,H`, CB 54 (R170) -/
  | bit2H
  /-- `BIT 2,L`, CB 55 (R170) -/
  | bit2L
  /-- `BIT 2,(HL)`, CB 56 (R171) -/
  | bit2AtHl
  /-- `BIT 2,A`, CB 57 (R170) -/
  | bit2A
  /-- `BIT 3,B`, CB 58 (R170) -/
  | bit3B
  /-- `BIT 3,C`, CB 59 (R170) -/
  | bit3C
  /-- `BIT 3,D`, CB 5A (R170) -/
  | bit3D
  /-- `BIT 3,E`, CB 5B (R170) -/
  | bit3E
  /-- `BIT 3,H`, CB 5C (R170) -/
  | bit3H
  /-- `BIT 3,L`, CB 5D (R170) -/
  | bit3L
  /-- `BIT 3,(HL)`, CB 5E (R171) -/
  | bit3AtHl
  /-- `BIT 3,A`, CB 5F (R170) -/
  | bit3A
  /-- `BIT 4,B`, CB 60 (R170) -/
  | bit4B
  /-- `BIT 4,C`, CB 61 (R170) -/
  | bit4C
  /-- `BIT 4,D`, CB 62 (R170) -/
  | bit4D
  /-- `BIT 4,E`, CB 63 (R170) -/
  | bit4E
  /-- `BIT 4,H`, CB 64 (R170) -/
  | bit4H
  /-- `BIT 4,L`, CB 65 (R170) -/
  | bit4L
  /-- `BIT 4,(HL)`, CB 66 (R171) -/
  | bit4AtHl
  /-- `BIT 4,A`, CB 67 (R170) -/
  | bit4A
  /-- `BIT 5,B`, CB 68 (R170) -/
  | bit5B
  /-- `BIT 5,C`, CB 69 (R170) -/
  | bit5C
  /-- `BIT 5,D`, CB 6A (R170) -/
  | bit5D
  /-- `BIT 5,E`, CB 6B (R170) -/
  | bit5E
  /-- `BIT 5,H`, CB 6C (R170) -/
  | bit5H
  /-- `BIT 5,L`, CB 6D (R170) -/
  | bit5L
  /-- `BIT 5,(HL)`, CB 6E (R171) -/
  | bit5AtHl
  /-- `BIT 5,A`, CB 6F (R170) -/
  | bit5A
  /-- `BIT 6,B`, CB 70 (R170) -/
  | bit6B
  /-- `BIT 6,C`, CB 71 (R170) -/
  | bit6C
  /-- `BIT 6,D`, CB 72 (R170) -/
  | bit6D
  /-- `BIT 6,E`, CB 73 (R170) -/
  | bit6E
  /-- `BIT 6,H`, CB 74 (R170) -/
  | bit6H
  /-- `BIT 6,L`, CB 75 (R170) -/
  | bit6L
  /-- `BIT 6,(HL)`, CB 76 (R171) -/
  | bit6AtHl
  /-- `BIT 6,A`, CB 77 (R170) -/
  | bit6A
  /-- `BIT 7,B`, CB 78 (R170) -/
  | bit7B
  /-- `BIT 7,C`, CB 79 (R170) -/
  | bit7C
  /-- `BIT 7,D`, CB 7A (R170) -/
  | bit7D
  /-- `BIT 7,E`, CB 7B (R170) -/
  | bit7E
  /-- `BIT 7,H`, CB 7C (R170) -/
  | bit7H
  /-- `BIT 7,L`, CB 7D (R170) -/
  | bit7L
  /-- `BIT 7,(HL)`, CB 7E (R171) -/
  | bit7AtHl
  /-- `BIT 7,A`, CB 7F (R170) -/
  | bit7A
  /-- `RES 0,B`, CB 80 (R172) -/
  | res0B
  /-- `RES 0,C`, CB 81 (R172) -/
  | res0C
  /-- `RES 0,D`, CB 82 (R172) -/
  | res0D
  /-- `RES 0,E`, CB 83 (R172) -/
  | res0E
  /-- `RES 0,H`, CB 84 (R172) -/
  | res0H
  /-- `RES 0,L`, CB 85 (R172) -/
  | res0L
  /-- `RES 0,(HL)`, CB 86 (R173) -/
  | res0AtHl
  /-- `RES 0,A`, CB 87 (R172) -/
  | res0A
  /-- `RES 1,B`, CB 88 (R172) -/
  | res1B
  /-- `RES 1,C`, CB 89 (R172) -/
  | res1C
  /-- `RES 1,D`, CB 8A (R172) -/
  | res1D
  /-- `RES 1,E`, CB 8B (R172) -/
  | res1E
  /-- `RES 1,H`, CB 8C (R172) -/
  | res1H
  /-- `RES 1,L`, CB 8D (R172) -/
  | res1L
  /-- `RES 1,(HL)`, CB 8E (R173) -/
  | res1AtHl
  /-- `RES 1,A`, CB 8F (R172) -/
  | res1A
  /-- `RES 2,B`, CB 90 (R172) -/
  | res2B
  /-- `RES 2,C`, CB 91 (R172) -/
  | res2C
  /-- `RES 2,D`, CB 92 (R172) -/
  | res2D
  /-- `RES 2,E`, CB 93 (R172) -/
  | res2E
  /-- `RES 2,H`, CB 94 (R172) -/
  | res2H
  /-- `RES 2,L`, CB 95 (R172) -/
  | res2L
  /-- `RES 2,(HL)`, CB 96 (R173) -/
  | res2AtHl
  /-- `RES 2,A`, CB 97 (R172) -/
  | res2A
  /-- `RES 3,B`, CB 98 (R172) -/
  | res3B
  /-- `RES 3,C`, CB 99 (R172) -/
  | res3C
  /-- `RES 3,D`, CB 9A (R172) -/
  | res3D
  /-- `RES 3,E`, CB 9B (R172) -/
  | res3E
  /-- `RES 3,H`, CB 9C (R172) -/
  | res3H
  /-- `RES 3,L`, CB 9D (R172) -/
  | res3L
  /-- `RES 3,(HL)`, CB 9E (R173) -/
  | res3AtHl
  /-- `RES 3,A`, CB 9F (R172) -/
  | res3A
  /-- `RES 4,B`, CB A0 (R172) -/
  | res4B
  /-- `RES 4,C`, CB A1 (R172) -/
  | res4C
  /-- `RES 4,D`, CB A2 (R172) -/
  | res4D
  /-- `RES 4,E`, CB A3 (R172) -/
  | res4E
  /-- `RES 4,H`, CB A4 (R172) -/
  | res4H
  /-- `RES 4,L`, CB A5 (R172) -/
  | res4L
  /-- `RES 4,(HL)`, CB A6 (R173) -/
  | res4AtHl
  /-- `RES 4,A`, CB A7 (R172) -/
  | res4A
  /-- `RES 5,B`, CB A8 (R172) -/
  | res5B
  /-- `RES 5,C`, CB A9 (R172) -/
  | res5C
  /-- `RES 5,D`, CB AA (R172) -/
  | res5D
  /-- `RES 5,E`, CB AB (R172) -/
  | res5E
  /-- `RES 5,H`, CB AC (R172) -/
  | res5H
  /-- `RES 5,L`, CB AD (R172) -/
  | res5L
  /-- `RES 5,(HL)`, CB AE (R173) -/
  | res5AtHl
  /-- `RES 5,A`, CB AF (R172) -/
  | res5A
  /-- `RES 6,B`, CB B0 (R172) -/
  | res6B
  /-- `RES 6,C`, CB B1 (R172) -/
  | res6C
  /-- `RES 6,D`, CB B2 (R172) -/
  | res6D
  /-- `RES 6,E`, CB B3 (R172) -/
  | res6E
  /-- `RES 6,H`, CB B4 (R172) -/
  | res6H
  /-- `RES 6,L`, CB B5 (R172) -/
  | res6L
  /-- `RES 6,(HL)`, CB B6 (R173) -/
  | res6AtHl
  /-- `RES 6,A`, CB B7 (R172) -/
  | res6A
  /-- `RES 7,B`, CB B8 (R172) -/
  | res7B
  /-- `RES 7,C`, CB B9 (R172) -/
  | res7C
  /-- `RES 7,D`, CB BA (R172) -/
  | res7D
  /-- `RES 7,E`, CB BB (R172) -/
  | res7E
  /-- `RES 7,H`, CB BC (R172) -/
  | res7H
  /-- `RES 7,L`, CB BD (R172) -/
  | res7L
  /-- `RES 7,(HL)`, CB BE (R173) -/
  | res7AtHl
  /-- `RES 7,A`, CB BF (R172) -/
  | res7A
  /-- `SET 0,B`, CB C0 (R174) -/
  | set0B
  /-- `SET 0,C`, CB C1 (R174) -/
  | set0C
  /-- `SET 0,D`, CB C2 (R174) -/
  | set0D
  /-- `SET 0,E`, CB C3 (R174) -/
  | set0E
  /-- `SET 0,H`, CB C4 (R174) -/
  | set0H
  /-- `SET 0,L`, CB C5 (R174) -/
  | set0L
  /-- `SET 0,(HL)`, CB C6 (R175) -/
  | set0AtHl
  /-- `SET 0,A`, CB C7 (R174) -/
  | set0A
  /-- `SET 1,B`, CB C8 (R174) -/
  | set1B
  /-- `SET 1,C`, CB C9 (R174) -/
  | set1C
  /-- `SET 1,D`, CB CA (R174) -/
  | set1D
  /-- `SET 1,E`, CB CB (R174) -/
  | set1E
  /-- `SET 1,H`, CB CC (R174) -/
  | set1H
  /-- `SET 1,L`, CB CD (R174) -/
  | set1L
  /-- `SET 1,(HL)`, CB CE (R175) -/
  | set1AtHl
  /-- `SET 1,A`, CB CF (R174) -/
  | set1A
  /-- `SET 2,B`, CB D0 (R174) -/
  | set2B
  /-- `SET 2,C`, CB D1 (R174) -/
  | set2C
  /-- `SET 2,D`, CB D2 (R174) -/
  | set2D
  /-- `SET 2,E`, CB D3 (R174) -/
  | set2E
  /-- `SET 2,H`, CB D4 (R174) -/
  | set2H
  /-- `SET 2,L`, CB D5 (R174) -/
  | set2L
  /-- `SET 2,(HL)`, CB D6 (R175) -/
  | set2AtHl
  /-- `SET 2,A`, CB D7 (R174) -/
  | set2A
  /-- `SET 3,B`, CB D8 (R174) -/
  | set3B
  /-- `SET 3,C`, CB D9 (R174) -/
  | set3C
  /-- `SET 3,D`, CB DA (R174) -/
  | set3D
  /-- `SET 3,E`, CB DB (R174) -/
  | set3E
  /-- `SET 3,H`, CB DC (R174) -/
  | set3H
  /-- `SET 3,L`, CB DD (R174) -/
  | set3L
  /-- `SET 3,(HL)`, CB DE (R175) -/
  | set3AtHl
  /-- `SET 3,A`, CB DF (R174) -/
  | set3A
  /-- `SET 4,B`, CB E0 (R174) -/
  | set4B
  /-- `SET 4,C`, CB E1 (R174) -/
  | set4C
  /-- `SET 4,D`, CB E2 (R174) -/
  | set4D
  /-- `SET 4,E`, CB E3 (R174) -/
  | set4E
  /-- `SET 4,H`, CB E4 (R174) -/
  | set4H
  /-- `SET 4,L`, CB E5 (R174) -/
  | set4L
  /-- `SET 4,(HL)`, CB E6 (R175) -/
  | set4AtHl
  /-- `SET 4,A`, CB E7 (R174) -/
  | set4A
  /-- `SET 5,B`, CB E8 (R174) -/
  | set5B
  /-- `SET 5,C`, CB E9 (R174) -/
  | set5C
  /-- `SET 5,D`, CB EA (R174) -/
  | set5D
  /-- `SET 5,E`, CB EB (R174) -/
  | set5E
  /-- `SET 5,H`, CB EC (R174) -/
  | set5H
  /-- `SET 5,L`, CB ED (R174) -/
  | set5L
  /-- `SET 5,(HL)`, CB EE (R175) -/
  | set5AtHl
  /-- `SET 5,A`, CB EF (R174) -/
  | set5A
  /-- `SET 6,B`, CB F0 (R174) -/
  | set6B
  /-- `SET 6,C`, CB F1 (R174) -/
  | set6C
  /-- `SET 6,D`, CB F2 (R174) -/
  | set6D
  /-- `SET 6,E`, CB F3 (R174) -/
  | set6E
  /-- `SET 6,H`, CB F4 (R174) -/
  | set6H
  /-- `SET 6,L`, CB F5 (R174) -/
  | set6L
  /-- `SET 6,(HL)`, CB F6 (R175) -/
  | set6AtHl
  /-- `SET 6,A`, CB F7 (R174) -/
  | set6A
  /-- `SET 7,B`, CB F8 (R174) -/
  | set7B
  /-- `SET 7,C`, CB F9 (R174) -/
  | set7C
  /-- `SET 7,D`, CB FA (R174) -/
  | set7D
  /-- `SET 7,E`, CB FB (R174) -/
  | set7E
  /-- `SET 7,H`, CB FC (R174) -/
  | set7H
  /-- `SET 7,L`, CB FD (R174) -/
  | set7L
  /-- `SET 7,(HL)`, CB FE (R175) -/
  | set7AtHl
  /-- `SET 7,A`, CB FF (R174) -/
  | set7A
  deriving DecidableEq, Repr

/-- `LD r,r'` (R180). -/
def Instr.ldRR : R8 → R8 → Instr
  | .b, .b => .ldBB
  | .b, .c => .ldBC
  | .b, .d => .ldBD
  | .b, .e => .ldBE
  | .b, .h => .ldBH
  | .b, .l => .ldBL
  | .b, .a => .ldBA
  | .c, .b => .ldCB
  | .c, .c => .ldCC
  | .c, .d => .ldCD
  | .c, .e => .ldCE
  | .c, .h => .ldCH
  | .c, .l => .ldCL
  | .c, .a => .ldCA
  | .d, .b => .ldDB
  | .d, .c => .ldDC
  | .d, .d => .ldDD
  | .d, .e => .ldDE
  | .d, .h => .ldDH
  | .d, .l => .ldDL
  | .d, .a => .ldDA
  | .e, .b => .ldEB
  | .e, .c => .ldEC
  | .e, .d => .ldED
  | .e, .e => .ldEE
  | .e, .h => .ldEH
  | .e, .l => .ldEL
  | .e, .a => .ldEA
  | .h, .b => .ldHB
  | .h, .c => .ldHC
  | .h, .d => .ldHD
  | .h, .e => .ldHE
  | .h, .h => .ldHH
  | .h, .l => .ldHL
  | .h, .a => .ldHA
  | .l, .b => .ldLB
  | .l, .c => .ldLC
  | .l, .d => .ldLD
  | .l, .e => .ldLE
  | .l, .h => .ldLH
  | .l, .l => .ldLL
  | .l, .a => .ldLA
  | .a, .b => .ldAB
  | .a, .c => .ldAC
  | .a, .d => .ldAD
  | .a, .e => .ldAE
  | .a, .h => .ldAH
  | .a, .l => .ldAL
  | .a, .a => .ldAA

/-- `LD r,(HL)` (R181). -/
def Instr.ldRAtHl : R8 → Instr
  | .b => .ldBAtHl
  | .c => .ldCAtHl
  | .d => .ldDAtHl
  | .e => .ldEAtHl
  | .h => .ldHAtHl
  | .l => .ldLAtHl
  | .a => .ldAAtHl

/-- `LD (HL),r` (R182). -/
def Instr.ldAtHlR : R8 → Instr
  | .b => .ldAtHlB
  | .c => .ldAtHlC
  | .d => .ldAtHlD
  | .e => .ldAtHlE
  | .h => .ldAtHlH
  | .l => .ldAtHlL
  | .a => .ldAtHlA

/-- `LD r,n` (R183). -/
def Instr.ldRN : R8 → Byte → Instr
  | .b, n => .ldBN n
  | .c, n => .ldCN n
  | .d, n => .ldDN n
  | .e, n => .ldEN n
  | .h, n => .ldHN n
  | .l, n => .ldLN n
  | .a, n => .ldAN n

/-- `LD rr,nn` and `LD SP,nn` (R193, R194). -/
def Instr.ldRpNn : Rp → Word → Instr
  | .bc, nn => .ldBcNn nn
  | .de, nn => .ldDeNn nn
  | .hl, nn => .ldHlNn nn
  | .sp, nn => .ldSpNn nn

/-- `PUSH rr` and `PUSH AF` (R204, R205). -/
def Instr.push : Rp2 → Instr
  | .bc => .pushBc
  | .de => .pushDe
  | .hl => .pushHl
  | .af => .pushAf

/-- `POP rr` and `POP AF` (R206, R207). -/
def Instr.pop : Rp2 → Instr
  | .bc => .popBc
  | .de => .popDe
  | .hl => .popHl
  | .af => .popAf

/-- The accumulator operations on a register (R101 to R122). -/
def Instr.aluR : AluOp → R8 → Instr
  | .add, .b => .addAB
  | .add, .c => .addAC
  | .add, .d => .addAD
  | .add, .e => .addAE
  | .add, .h => .addAH
  | .add, .l => .addAL
  | .add, .a => .addAA
  | .adc, .b => .adcAB
  | .adc, .c => .adcAC
  | .adc, .d => .adcAD
  | .adc, .e => .adcAE
  | .adc, .h => .adcAH
  | .adc, .l => .adcAL
  | .adc, .a => .adcAA
  | .sub, .b => .subB
  | .sub, .c => .subC
  | .sub, .d => .subD
  | .sub, .e => .subE
  | .sub, .h => .subH
  | .sub, .l => .subL
  | .sub, .a => .subA
  | .sbc, .b => .sbcAB
  | .sbc, .c => .sbcAC
  | .sbc, .d => .sbcAD
  | .sbc, .e => .sbcAE
  | .sbc, .h => .sbcAH
  | .sbc, .l => .sbcAL
  | .sbc, .a => .sbcAA
  | .and, .b => .andB
  | .and, .c => .andC
  | .and, .d => .andD
  | .and, .e => .andE
  | .and, .h => .andH
  | .and, .l => .andL
  | .and, .a => .andA
  | .xor, .b => .xorB
  | .xor, .c => .xorC
  | .xor, .d => .xorD
  | .xor, .e => .xorE
  | .xor, .h => .xorH
  | .xor, .l => .xorL
  | .xor, .a => .xorA
  | .or, .b => .orB
  | .or, .c => .orC
  | .or, .d => .orD
  | .or, .e => .orE
  | .or, .h => .orH
  | .or, .l => .orL
  | .or, .a => .orA
  | .cp, .b => .cpB
  | .cp, .c => .cpC
  | .cp, .d => .cpD
  | .cp, .e => .cpE
  | .cp, .h => .cpH
  | .cp, .l => .cpL
  | .cp, .a => .cpA

/-- The accumulator operations on the byte at HL (R102 to R123). -/
def Instr.aluAtHl : AluOp → Instr
  | .add => .addAAtHl
  | .adc => .adcAAtHl
  | .sub => .subAtHl
  | .sbc => .sbcAAtHl
  | .and => .andAtHl
  | .xor => .xorAtHl
  | .or => .orAtHl
  | .cp => .cpAtHl

/-- The accumulator operations on an immediate byte (R103 to R124). -/
def Instr.aluN : AluOp → Byte → Instr
  | .add, n => .addAN n
  | .adc, n => .adcAN n
  | .sub, n => .subN n
  | .sbc, n => .sbcAN n
  | .and, n => .andN n
  | .xor, n => .xorN n
  | .or, n => .orN n
  | .cp, n => .cpN n

/-- `INC r` (R125). -/
def Instr.incR : R8 → Instr
  | .b => .incB
  | .c => .incC
  | .d => .incD
  | .e => .incE
  | .h => .incH
  | .l => .incL
  | .a => .incA

/-- `DEC r` (R127). -/
def Instr.decR : R8 → Instr
  | .b => .decB
  | .c => .decC
  | .d => .decD
  | .e => .decE
  | .h => .decH
  | .l => .decL
  | .a => .decA

/-- `ADD HL,rr` and `ADD HL,SP` (R140, R141). -/
def Instr.addHlRp : Rp → Instr
  | .bc => .addHlBc
  | .de => .addHlDe
  | .hl => .addHlHl
  | .sp => .addHlSp

/-- `INC rr` and `INC SP` (R142, R143). -/
def Instr.incRp : Rp → Instr
  | .bc => .incBc
  | .de => .incDe
  | .hl => .incHl
  | .sp => .incSp

/-- `DEC rr` and `DEC SP` (R144, R145). -/
def Instr.decRp : Rp → Instr
  | .bc => .decBc
  | .de => .decDe
  | .hl => .decHl
  | .sp => .decSp

/-- The CB rotates, shifts and SWAP on a register (R154 to R168). -/
def Instr.shiftR : ShiftOp → R8 → Instr
  | .rlc, .b => .rlcB
  | .rlc, .c => .rlcC
  | .rlc, .d => .rlcD
  | .rlc, .e => .rlcE
  | .rlc, .h => .rlcH
  | .rlc, .l => .rlcL
  | .rlc, .a => .rlcA
  | .rrc, .b => .rrcB
  | .rrc, .c => .rrcC
  | .rrc, .d => .rrcD
  | .rrc, .e => .rrcE
  | .rrc, .h => .rrcH
  | .rrc, .l => .rrcL
  | .rrc, .a => .rrcA
  | .rl, .b => .rlB
  | .rl, .c => .rlC
  | .rl, .d => .rlD
  | .rl, .e => .rlE
  | .rl, .h => .rlH
  | .rl, .l => .rlL
  | .rl, .a => .rlA
  | .rr, .b => .rrB
  | .rr, .c => .rrC
  | .rr, .d => .rrD
  | .rr, .e => .rrE
  | .rr, .h => .rrH
  | .rr, .l => .rrL
  | .rr, .a => .rrA
  | .sla, .b => .slaB
  | .sla, .c => .slaC
  | .sla, .d => .slaD
  | .sla, .e => .slaE
  | .sla, .h => .slaH
  | .sla, .l => .slaL
  | .sla, .a => .slaA
  | .sra, .b => .sraB
  | .sra, .c => .sraC
  | .sra, .d => .sraD
  | .sra, .e => .sraE
  | .sra, .h => .sraH
  | .sra, .l => .sraL
  | .sra, .a => .sraA
  | .swap, .b => .swapB
  | .swap, .c => .swapC
  | .swap, .d => .swapD
  | .swap, .e => .swapE
  | .swap, .h => .swapH
  | .swap, .l => .swapL
  | .swap, .a => .swapA
  | .srl, .b => .srlB
  | .srl, .c => .srlC
  | .srl, .d => .srlD
  | .srl, .e => .srlE
  | .srl, .h => .srlH
  | .srl, .l => .srlL
  | .srl, .a => .srlA

/-- The CB rotates, shifts and SWAP on the byte at HL (R155 to R169). -/
def Instr.shiftAtHl : ShiftOp → Instr
  | .rlc => .rlcAtHl
  | .rrc => .rrcAtHl
  | .rl => .rlAtHl
  | .rr => .rrAtHl
  | .sla => .slaAtHl
  | .sra => .sraAtHl
  | .swap => .swapAtHl
  | .srl => .srlAtHl

/-- `BIT 0,r` (R170). -/
def Instr.bit0R : R8 → Instr
  | .b => .bit0B
  | .c => .bit0C
  | .d => .bit0D
  | .e => .bit0E
  | .h => .bit0H
  | .l => .bit0L
  | .a => .bit0A

/-- `BIT 1,r` (R170). -/
def Instr.bit1R : R8 → Instr
  | .b => .bit1B
  | .c => .bit1C
  | .d => .bit1D
  | .e => .bit1E
  | .h => .bit1H
  | .l => .bit1L
  | .a => .bit1A

/-- `BIT 2,r` (R170). -/
def Instr.bit2R : R8 → Instr
  | .b => .bit2B
  | .c => .bit2C
  | .d => .bit2D
  | .e => .bit2E
  | .h => .bit2H
  | .l => .bit2L
  | .a => .bit2A

/-- `BIT 3,r` (R170). -/
def Instr.bit3R : R8 → Instr
  | .b => .bit3B
  | .c => .bit3C
  | .d => .bit3D
  | .e => .bit3E
  | .h => .bit3H
  | .l => .bit3L
  | .a => .bit3A

/-- `BIT 4,r` (R170). -/
def Instr.bit4R : R8 → Instr
  | .b => .bit4B
  | .c => .bit4C
  | .d => .bit4D
  | .e => .bit4E
  | .h => .bit4H
  | .l => .bit4L
  | .a => .bit4A

/-- `BIT 5,r` (R170). -/
def Instr.bit5R : R8 → Instr
  | .b => .bit5B
  | .c => .bit5C
  | .d => .bit5D
  | .e => .bit5E
  | .h => .bit5H
  | .l => .bit5L
  | .a => .bit5A

/-- `BIT 6,r` (R170). -/
def Instr.bit6R : R8 → Instr
  | .b => .bit6B
  | .c => .bit6C
  | .d => .bit6D
  | .e => .bit6E
  | .h => .bit6H
  | .l => .bit6L
  | .a => .bit6A

/-- `BIT 7,r` (R170). -/
def Instr.bit7R : R8 → Instr
  | .b => .bit7B
  | .c => .bit7C
  | .d => .bit7D
  | .e => .bit7E
  | .h => .bit7H
  | .l => .bit7L
  | .a => .bit7A

/-- `BIT b,r` (R170). -/
def Instr.bitR (b : Fin 8) (r : R8) : Instr :=
  match b.val with
  | 0 => .bit0R r
  | 1 => .bit1R r
  | 2 => .bit2R r
  | 3 => .bit3R r
  | 4 => .bit4R r
  | 5 => .bit5R r
  | 6 => .bit6R r
  | _ => .bit7R r

/-- `BIT b,(HL)` (R171). -/
def Instr.bitAtHl (b : Fin 8) : Instr :=
  match b.val with
  | 0 => .bit0AtHl
  | 1 => .bit1AtHl
  | 2 => .bit2AtHl
  | 3 => .bit3AtHl
  | 4 => .bit4AtHl
  | 5 => .bit5AtHl
  | 6 => .bit6AtHl
  | _ => .bit7AtHl

/-- `RES 0,r` (R172). -/
def Instr.res0R : R8 → Instr
  | .b => .res0B
  | .c => .res0C
  | .d => .res0D
  | .e => .res0E
  | .h => .res0H
  | .l => .res0L
  | .a => .res0A

/-- `RES 1,r` (R172). -/
def Instr.res1R : R8 → Instr
  | .b => .res1B
  | .c => .res1C
  | .d => .res1D
  | .e => .res1E
  | .h => .res1H
  | .l => .res1L
  | .a => .res1A

/-- `RES 2,r` (R172). -/
def Instr.res2R : R8 → Instr
  | .b => .res2B
  | .c => .res2C
  | .d => .res2D
  | .e => .res2E
  | .h => .res2H
  | .l => .res2L
  | .a => .res2A

/-- `RES 3,r` (R172). -/
def Instr.res3R : R8 → Instr
  | .b => .res3B
  | .c => .res3C
  | .d => .res3D
  | .e => .res3E
  | .h => .res3H
  | .l => .res3L
  | .a => .res3A

/-- `RES 4,r` (R172). -/
def Instr.res4R : R8 → Instr
  | .b => .res4B
  | .c => .res4C
  | .d => .res4D
  | .e => .res4E
  | .h => .res4H
  | .l => .res4L
  | .a => .res4A

/-- `RES 5,r` (R172). -/
def Instr.res5R : R8 → Instr
  | .b => .res5B
  | .c => .res5C
  | .d => .res5D
  | .e => .res5E
  | .h => .res5H
  | .l => .res5L
  | .a => .res5A

/-- `RES 6,r` (R172). -/
def Instr.res6R : R8 → Instr
  | .b => .res6B
  | .c => .res6C
  | .d => .res6D
  | .e => .res6E
  | .h => .res6H
  | .l => .res6L
  | .a => .res6A

/-- `RES 7,r` (R172). -/
def Instr.res7R : R8 → Instr
  | .b => .res7B
  | .c => .res7C
  | .d => .res7D
  | .e => .res7E
  | .h => .res7H
  | .l => .res7L
  | .a => .res7A

/-- `RES b,r` (R172). -/
def Instr.resR (b : Fin 8) (r : R8) : Instr :=
  match b.val with
  | 0 => .res0R r
  | 1 => .res1R r
  | 2 => .res2R r
  | 3 => .res3R r
  | 4 => .res4R r
  | 5 => .res5R r
  | 6 => .res6R r
  | _ => .res7R r

/-- `RES b,(HL)` (R173). -/
def Instr.resAtHl (b : Fin 8) : Instr :=
  match b.val with
  | 0 => .res0AtHl
  | 1 => .res1AtHl
  | 2 => .res2AtHl
  | 3 => .res3AtHl
  | 4 => .res4AtHl
  | 5 => .res5AtHl
  | 6 => .res6AtHl
  | _ => .res7AtHl

/-- `SET 0,r` (R174). -/
def Instr.set0R : R8 → Instr
  | .b => .set0B
  | .c => .set0C
  | .d => .set0D
  | .e => .set0E
  | .h => .set0H
  | .l => .set0L
  | .a => .set0A

/-- `SET 1,r` (R174). -/
def Instr.set1R : R8 → Instr
  | .b => .set1B
  | .c => .set1C
  | .d => .set1D
  | .e => .set1E
  | .h => .set1H
  | .l => .set1L
  | .a => .set1A

/-- `SET 2,r` (R174). -/
def Instr.set2R : R8 → Instr
  | .b => .set2B
  | .c => .set2C
  | .d => .set2D
  | .e => .set2E
  | .h => .set2H
  | .l => .set2L
  | .a => .set2A

/-- `SET 3,r` (R174). -/
def Instr.set3R : R8 → Instr
  | .b => .set3B
  | .c => .set3C
  | .d => .set3D
  | .e => .set3E
  | .h => .set3H
  | .l => .set3L
  | .a => .set3A

/-- `SET 4,r` (R174). -/
def Instr.set4R : R8 → Instr
  | .b => .set4B
  | .c => .set4C
  | .d => .set4D
  | .e => .set4E
  | .h => .set4H
  | .l => .set4L
  | .a => .set4A

/-- `SET 5,r` (R174). -/
def Instr.set5R : R8 → Instr
  | .b => .set5B
  | .c => .set5C
  | .d => .set5D
  | .e => .set5E
  | .h => .set5H
  | .l => .set5L
  | .a => .set5A

/-- `SET 6,r` (R174). -/
def Instr.set6R : R8 → Instr
  | .b => .set6B
  | .c => .set6C
  | .d => .set6D
  | .e => .set6E
  | .h => .set6H
  | .l => .set6L
  | .a => .set6A

/-- `SET 7,r` (R174). -/
def Instr.set7R : R8 → Instr
  | .b => .set7B
  | .c => .set7C
  | .d => .set7D
  | .e => .set7E
  | .h => .set7H
  | .l => .set7L
  | .a => .set7A

/-- `SET b,r` (R174). -/
def Instr.setR (b : Fin 8) (r : R8) : Instr :=
  match b.val with
  | 0 => .set0R r
  | 1 => .set1R r
  | 2 => .set2R r
  | 3 => .set3R r
  | 4 => .set4R r
  | 5 => .set5R r
  | 6 => .set6R r
  | _ => .set7R r

/-- `SET b,(HL)` (R175). -/
def Instr.setAtHl (b : Fin 8) : Instr :=
  match b.val with
  | 0 => .set0AtHl
  | 1 => .set1AtHl
  | 2 => .set2AtHl
  | 3 => .set3AtHl
  | 4 => .set4AtHl
  | 5 => .set5AtHl
  | 6 => .set6AtHl
  | _ => .set7AtHl

/-- `JP cc,nn` (R222). -/
def Instr.jpIf : Cond → Word → Instr
  | .nz, nn => .jpNzNn nn
  | .z, nn => .jpZNn nn
  | .nc, nn => .jpNcNn nn
  | .c, nn => .jpCNn nn

/-- `JR cc,e` (R225). -/
def Instr.jrIf : Cond → Byte → Instr
  | .nz, e => .jrNzE e
  | .z, e => .jrZE e
  | .nc, e => .jrNcE e
  | .c, e => .jrCE e

/-- `CALL cc,nn` (R228). -/
def Instr.callIf : Cond → Word → Instr
  | .nz, nn => .callNzNn nn
  | .z, nn => .callZNn nn
  | .nc, nn => .callNcNn nn
  | .c, nn => .callCNn nn

/-- `RET cc` (R230). -/
def Instr.retIf : Cond → Instr
  | .nz => .retNz
  | .z => .retZ
  | .nc => .retNc
  | .c => .retC

/-- `RST t` with `t = 8 * y` (R232). -/
def Instr.rst (y : Fin 8) : Instr :=
  match y.val with
  | 0 => .rst00
  | 1 => .rst08
  | 2 => .rst10
  | 3 => .rst18
  | 4 => .rst20
  | 5 => .rst28
  | 6 => .rst30
  | _ => .rst38

end Sys2Proof
end

