-- ==== Sys2Proof/Machine/Bits.lean ====
section
/-! DEFINITION. Bit fields, halves of words and extensions (spec/00_scope.md section 5, spec/30_encoding.md R61),
and the codes by which an opcode byte names its operands (R62 to R64). -/

namespace Sys2Proof

/-- `v[15:8]`. -/
def hiByte (v : Word) : Byte := v.extractLsb' 8 8

/-- `v[7:0]`. -/
def loByte (v : Word) : Byte := v.extractLsb' 0 8

/-- `high * 256 + low` (R11); little-endian assembly when `lo` is the byte at the lower address (R42). -/
def joinBytes (hi lo : Byte) : Word := hi ++ lo

/-- `zext_16`. -/
def zext16 (b : Byte) : Word := b.setWidth 16

/-- `sext_16`: the byte read as two's complement. -/
def sext16 (b : Byte) : Word := b.signExtend 16

/-- `x = opcode[7:6]` (R61). -/
def fieldX (op : Byte) : Nat := op.toNat / 64

/-- `y = opcode[5:3]` (R61). -/
def fieldY (op : Byte) : Nat := op.toNat / 8 % 8

/-- `z = opcode[2:0]` (R61). -/
def fieldZ (op : Byte) : Nat := op.toNat % 8

/-- `p = opcode[5:4]` (R61). -/
def fieldP (op : Byte) : Nat := op.toNat / 16 % 4

/-- `q = opcode[3]` (R61). -/
def fieldQ (op : Byte) : Nat := op.toNat / 8 % 2

/-- The byte with fields x, y, z (R61). -/
def opcodeOf (x y z : Nat) : Byte := BitVec.ofNat 8 (64 * x + 8 * y + z)

/-- The 3-bit code of a register (R62). -/
def R8.code : R8 → Nat
  | .b => 0
  | .c => 1
  | .d => 2
  | .e => 3
  | .h => 4
  | .l => 5
  | .a => 7

/-- The 3-bit code of an operand (R62). -/
def Operand8.code : Operand8 → Nat
  | .reg r => r.code
  | .atHl => 6

/-- The operand a 3-bit code selects (R62). -/
def operandOfCode : Nat → Operand8
  | 0 => .reg .b
  | 1 => .reg .c
  | 2 => .reg .d
  | 3 => .reg .e
  | 4 => .reg .h
  | 5 => .reg .l
  | 6 => .atHl
  | _ => .reg .a

/-- `rp` by its 2-bit code (R63). -/
def rpOfCode : Nat → Rp
  | 0 => .bc
  | 1 => .de
  | 2 => .hl
  | _ => .sp

/-- `rp2` by its 2-bit code (R63). -/
def rp2OfCode : Nat → Rp2
  | 0 => .bc
  | 1 => .de
  | 2 => .hl
  | _ => .af

/-- The condition by its 2-bit code (R64). -/
def condOfCode : Nat → Cond
  | 0 => .nz
  | 1 => .z
  | 2 => .nc
  | _ => .c

/-- The accumulator operation by its 3-bit code (R68). -/
def aluOfCode : Nat → AluOp
  | 0 => .add
  | 1 => .adc
  | 2 => .sub
  | 3 => .sbc
  | 4 => .and
  | 5 => .xor
  | 6 => .or
  | _ => .cp

/-- The CB rotate or shift by its 3-bit code (R69). -/
def shiftOfCode : Nat → ShiftOp
  | 0 => .rlc
  | 1 => .rrc
  | 2 => .rl
  | 3 => .rr
  | 4 => .sla
  | 5 => .sra
  | 6 => .swap
  | _ => .srl

end Sys2Proof
end

