-- ==== Sys2Proof/WellFormed.lean ====
section
/-! DEFINITION. Which terms of `Instr` are instructions the machine can fetch. Operand bytes have their exact width,
so every term is well formed but one kind: the bare CB prefix. -/

namespace Sys2Proof

/-- The check of a term. `prefixCb` alone fails it: the prefix and its second byte are ONE instruction
(spec/40_dispatch.md R83), the one the CB table gives that byte, so no bytes decode to the bare prefix (log 8).
No other operand value is reserved: every bit number, register code and immediate is legal (R61 to R65). -/
def Instr.wellFormed : Instr → Bool
  | .prefixCb _ => false
  | _ => true

end Sys2Proof
end

