-- ==== Sys2Proof/Decode.lean ====
section
/-! DEFINITION. The decoder, read from the field tables of spec/30_encoding.md (R68, R69), and the encoder, read row
by row from spec/opcode_table.json. -/

namespace Sys2Proof

/-- The primary rows with `x = 0` (R68). -/
def decodeX0 (op b1 b2 : Byte) : Instr :=
  let y := fieldY op
  let pair := rpOfCode (fieldP op)
  match fieldZ op with
  | 0 =>
    match y with
    | 0 => .nop
    | 1 => .ldAtNnSp (joinBytes b2 b1)
    | 2 => .djnzE b1
    | 3 => .jrE b1
    | _ => .jrIf (condOfCode (y - 4)) b1
  | 1 => if fieldQ op = 0 then .ldRpNn pair (joinBytes b2 b1) else .addHlRp pair
  | 2 =>
    match y with
    | 0 => .ldAtBcA
    | 1 => .ldAAtBc
    | 2 => .ldAtDeA
    | 3 => .ldAAtDe
    | 4 => .ldAtHlIncA
    | 5 => .ldAAtHlInc
    | 6 => .ldAtHlDecA
    | _ => .ldAAtHlDec
  | 3 => if fieldQ op = 0 then .incRp pair else .decRp pair
  | 4 =>
    match operandOfCode y with
    | .reg r => .incR r
    | .atHl => .incAtHl
  | 5 =>
    match operandOfCode y with
    | .reg r => .decR r
    | .atHl => .decAtHl
  | 6 =>
    match operandOfCode y with
    | .reg r => .ldRN r b1
    | .atHl => .ldAtHlN b1
  | _ =>
    match y with
    | 0 => .rlca
    | 1 => .rrca
    | 2 => .rla
    | 3 => .rra
    | 4 => .daa
    | 5 => .cpl
    | 6 => .scf
    | _ => .ccf

/-- The primary rows with `x = 1`: the 8-bit loads, and HALT where `LD (HL),(HL)` would stand (R68, R72). -/
def decodeX1 (op : Byte) : Instr :=
  match operandOfCode (fieldY op), operandOfCode (fieldZ op) with
  | .reg dst, .reg src => .ldRR dst src
  | .reg dst, .atHl => .ldRAtHl dst
  | .atHl, .reg src => .ldAtHlR src
  | .atHl, .atHl => .halt

/-- The primary rows with `x = 2`: the accumulator operations (R68). -/
def decodeX2 (op : Byte) : Instr :=
  match operandOfCode (fieldZ op) with
  | .reg r => .aluR (aluOfCode (fieldY op)) r
  | .atHl => .aluAtHl (aluOfCode (fieldY op))

/-- The primary rows with `x = 3` (R68), the eleven illegal slots among them (R70). -/
def decodeX3 (op b1 b2 : Byte) : Instr :=
  let y := fieldY op
  let nn := joinBytes b2 b1
  match fieldZ op with
  | 0 =>
    match y with
    | 4 => .ldhAtNA b1
    | 5 => .addSpE b1
    | 6 => .ldhAAtN b1
    | 7 => .ldHlSpE b1
    | _ => .retIf (condOfCode y)
  | 1 =>
    match y with
    | 1 => .ret
    | 3 => .reti
    | 5 => .jpHl
    | 7 => .ldSpHl
    | _ => .pop (rp2OfCode (fieldP op))
  | 2 =>
    match y with
    | 4 => .ldAtCA
    | 5 => .ldAtNnA nn
    | 6 => .ldAAtC
    | 7 => .ldAAtNn nn
    | _ => .jpIf (condOfCode y) nn
  | 3 =>
    match y with
    | 0 => .jpNn nn
    | 1 => .prefixCb b1
    | 2 => .illegalD3
    | 3 => .illegalDB
    | 4 => .illegalE3
    | 5 => .illegalEB
    | 6 => .di
    | _ => .ei
  | 4 =>
    match y with
    | 4 => .illegalE4
    | 5 => .illegalEC
    | 6 => .illegalF4
    | 7 => .illegalFC
    | _ => .callIf (condOfCode y) nn
  | 5 =>
    match y with
    | 1 => .callNn nn
    | 3 => .illegalDD
    | 5 => .illegalED
    | 7 => .illegalFD
    | _ => .push (rp2OfCode (fieldP op))
  | 6 => .aluN (aluOfCode y) b1
  | _ => .rst (Fin.ofNat 8 y)

/-- The primary table (R68, R82): what the opcode byte selects, with the two bytes that may follow it. The slot
0xCB gives the prefix (R66). -/
def decodePrimary (op b1 b2 : Byte) : Instr :=
  match fieldX op with
  | 0 => decodeX0 op b1 b2
  | 1 => decodeX1 op
  | 2 => decodeX2 op
  | _ => decodeX3 op b1 b2

/-- The CB-extended table (R69): what the byte after the prefix selects. -/
def decodeCb (op2 : Byte) : Instr :=
  let y := fieldY op2
  match fieldX op2, operandOfCode (fieldZ op2) with
  | 0, .reg r => .shiftR (shiftOfCode y) r
  | 0, .atHl => .shiftAtHl (shiftOfCode y)
  | 1, .reg r => .bitR (Fin.ofNat 8 y) r
  | 1, .atHl => .bitAtHl (Fin.ofNat 8 y)
  | 2, .reg r => .resR (Fin.ofNat 8 y) r
  | 2, .atHl => .resAtHl (Fin.ofNat 8 y)
  | _, .reg r => .setR (Fin.ofNat 8 y) r
  | _, .atHl => .setAtHl (Fin.ofNat 8 y)

/-- The instruction at three bytes: the primary slot, or after the prefix 0xCB the CB slot of the second byte (R66).
Bytes beyond the instruction's own length play no part. -/
def decodeBytes (b0 b1 b2 : Byte) : Instr :=
  if b0 = 0xCB#8 then decodeCb b1 else decodePrimary b0 b1 b2

/-- How many bytes the instruction that starts with `op` has, told by that byte alone (R60, R66, R70). -/
def instrLength (op : Byte) : Nat :=
  let y := fieldY op
  match fieldX op, fieldZ op with
  | 0, 0 => if y = 0 then 1 else if y = 1 then 3 else 2
  | 0, 1 => if fieldQ op = 0 then 3 else 1
  | 0, 6 => 2
  | 3, 0 => if y < 4 then 1 else 2
  | 3, 2 => if y = 4 ∨ y = 6 then 1 else 3
  | 3, 3 => if y = 0 then 3 else if y = 1 then 2 else 1
  | 3, 4 => if y < 4 then 3 else 1
  | 3, 5 => if y = 1 then 3 else 1
  | 3, 6 => 2
  | _, _ => 1

/-- What reading an instruction from a byte string gives. Every first byte selects an instruction, an illegal slot
included (R82), so the one rejection is a string that ends inside the instruction. -/
inductive DecodeResult where
  /-- The instruction read and the bytes after it. -/
  | instr (i : Instr) (rest : List Byte)
  /-- The string ends before the instruction does. -/
  | truncated
  deriving DecidableEq, Repr

/-- The decoder on a byte string, the byte at the lowest address first (R60). -/
def decode : List Byte → DecodeResult
  | [] => .truncated
  | b0 :: rest =>
    match instrLength b0, rest with
    | 1, after => .instr (decodeBytes b0 0 0) after
    | 2, b1 :: after => .instr (decodeBytes b0 b1 0) after
    | 3, b1 :: b2 :: after => .instr (decodeBytes b0 b1 b2) after
    | _, _ => .truncated

/-- Byte `k` of an instruction whose bits are `w`, bit 0 the least significant bit of the first byte. -/
def tableByte (w k : Nat) : Byte := BitVec.ofNat 8 (w / 256 ^ k)

/-- What the decoder reads from an instruction whose low `nbits` bits are `w`'s and whose other bits are zero. -/
def decodeTableWord (nbits w : Nat) : Option Instr :=
  let v := w % 2 ^ nbits
  match decode [tableByte v 0, tableByte v 1, tableByte v 2] with
  | .instr i _ => some i
  | .truncated => none

/-- The bytes of an instruction, the first at the lowest address, row by row as spec/opcode_table.json gives them:
opcode, then `n` or `e`, or `nn` low byte first (R60, R65). -/
def encode : Instr → List Byte
  | .ldBcNn nn => [0x01, loByte nn, hiByte nn]
  | .ldBN n => [0x06, n]
  | .ldAtNnSp nn => [0x08, loByte nn, hiByte nn]
  | .ldCN n => [0x0E, n]
  | .djnzE e => [0x10, e]
  | .ldDeNn nn => [0x11, loByte nn, hiByte nn]
  | .ldDN n => [0x16, n]
  | .jrE e => [0x18, e]
  | .ldEN n => [0x1E, n]
  | .jrNzE e => [0x20, e]
  | .ldHlNn nn => [0x21, loByte nn, hiByte nn]
  | .ldHN n => [0x26, n]
  | .jrZE e => [0x28, e]
  | .ldLN n => [0x2E, n]
  | .jrNcE e => [0x30, e]
  | .ldSpNn nn => [0x31, loByte nn, hiByte nn]
  | .ldAtHlN n => [0x36, n]
  | .jrCE e => [0x38, e]
  | .ldAN n => [0x3E, n]
  | .jpNzNn nn => [0xC2, loByte nn, hiByte nn]
  | .jpNn nn => [0xC3, loByte nn, hiByte nn]
  | .callNzNn nn => [0xC4, loByte nn, hiByte nn]
  | .addAN n => [0xC6, n]
  | .jpZNn nn => [0xCA, loByte nn, hiByte nn]
  | .prefixCb opcode2 => [0xCB, opcode2]
  | .callZNn nn => [0xCC, loByte nn, hiByte nn]
  | .callNn nn => [0xCD, loByte nn, hiByte nn]
  | .adcAN n => [0xCE, n]
  | .jpNcNn nn => [0xD2, loByte nn, hiByte nn]
  | .callNcNn nn => [0xD4, loByte nn, hiByte nn]
  | .subN n => [0xD6, n]
  | .jpCNn nn => [0xDA, loByte nn, hiByte nn]
  | .callCNn nn => [0xDC, loByte nn, hiByte nn]
  | .sbcAN n => [0xDE, n]
  | .ldhAtNA n => [0xE0, n]
  | .andN n => [0xE6, n]
  | .addSpE e => [0xE8, e]
  | .ldAtNnA nn => [0xEA, loByte nn, hiByte nn]
  | .xorN n => [0xEE, n]
  | .ldhAAtN n => [0xF0, n]
  | .orN n => [0xF6, n]
  | .ldHlSpE e => [0xF8, e]
  | .ldAAtNn nn => [0xFA, loByte nn, hiByte nn]
  | .cpN n => [0xFE, n]
  | .nop => [0x00]
  | .ldAtBcA => [0x02]
  | .incBc => [0x03]
  | .incB => [0x04]
  | .decB => [0x05]
  | .rlca => [0x07]
  | .addHlBc => [0x09]
  | .ldAAtBc => [0x0A]
  | .decBc => [0x0B]
  | .incC => [0x0C]
  | .decC => [0x0D]
  | .rrca => [0x0F]
  | .ldAtDeA => [0x12]
  | .incDe => [0x13]
  | .incD => [0x14]
  | .decD => [0x15]
  | .rla => [0x17]
  | .addHlDe => [0x19]
  | .ldAAtDe => [0x1A]
  | .decDe => [0x1B]
  | .incE => [0x1C]
  | .decE => [0x1D]
  | .rra => [0x1F]
  | .ldAtHlIncA => [0x22]
  | .incHl => [0x23]
  | .incH => [0x24]
  | .decH => [0x25]
  | .daa => [0x27]
  | .addHlHl => [0x29]
  | .ldAAtHlInc => [0x2A]
  | .decHl => [0x2B]
  | .incL => [0x2C]
  | .decL => [0x2D]
  | .cpl => [0x2F]
  | .ldAtHlDecA => [0x32]
  | .incSp => [0x33]
  | .incAtHl => [0x34]
  | .decAtHl => [0x35]
  | .scf => [0x37]
  | .addHlSp => [0x39]
  | .ldAAtHlDec => [0x3A]
  | .decSp => [0x3B]
  | .incA => [0x3C]
  | .decA => [0x3D]
  | .ccf => [0x3F]
  | .ldBB => [0x40]
  | .ldBC => [0x41]
  | .ldBD => [0x42]
  | .ldBE => [0x43]
  | .ldBH => [0x44]
  | .ldBL => [0x45]
  | .ldBAtHl => [0x46]
  | .ldBA => [0x47]
  | .ldCB => [0x48]
  | .ldCC => [0x49]
  | .ldCD => [0x4A]
  | .ldCE => [0x4B]
  | .ldCH => [0x4C]
  | .ldCL => [0x4D]
  | .ldCAtHl => [0x4E]
  | .ldCA => [0x4F]
  | .ldDB => [0x50]
  | .ldDC => [0x51]
  | .ldDD => [0x52]
  | .ldDE => [0x53]
  | .ldDH => [0x54]
  | .ldDL => [0x55]
  | .ldDAtHl => [0x56]
  | .ldDA => [0x57]
  | .ldEB => [0x58]
  | .ldEC => [0x59]
  | .ldED => [0x5A]
  | .ldEE => [0x5B]
  | .ldEH => [0x5C]
  | .ldEL => [0x5D]
  | .ldEAtHl => [0x5E]
  | .ldEA => [0x5F]
  | .ldHB => [0x60]
  | .ldHC => [0x61]
  | .ldHD => [0x62]
  | .ldHE => [0x63]
  | .ldHH => [0x64]
  | .ldHL => [0x65]
  | .ldHAtHl => [0x66]
  | .ldHA => [0x67]
  | .ldLB => [0x68]
  | .ldLC => [0x69]
  | .ldLD => [0x6A]
  | .ldLE => [0x6B]
  | .ldLH => [0x6C]
  | .ldLL => [0x6D]
  | .ldLAtHl => [0x6E]
  | .ldLA => [0x6F]
  | .ldAtHlB => [0x70]
  | .ldAtHlC => [0x71]
  | .ldAtHlD => [0x72]
  | .ldAtHlE => [0x73]
  | .ldAtHlH => [0x74]
  | .ldAtHlL => [0x75]
  | .halt => [0x76]
  | .ldAtHlA => [0x77]
  | .ldAB => [0x78]
  | .ldAC => [0x79]
  | .ldAD => [0x7A]
  | .ldAE => [0x7B]
  | .ldAH => [0x7C]
  | .ldAL => [0x7D]
  | .ldAAtHl => [0x7E]
  | .ldAA => [0x7F]
  | .addAB => [0x80]
  | .addAC => [0x81]
  | .addAD => [0x82]
  | .addAE => [0x83]
  | .addAH => [0x84]
  | .addAL => [0x85]
  | .addAAtHl => [0x86]
  | .addAA => [0x87]
  | .adcAB => [0x88]
  | .adcAC => [0x89]
  | .adcAD => [0x8A]
  | .adcAE => [0x8B]
  | .adcAH => [0x8C]
  | .adcAL => [0x8D]
  | .adcAAtHl => [0x8E]
  | .adcAA => [0x8F]
  | .subB => [0x90]
  | .subC => [0x91]
  | .subD => [0x92]
  | .subE => [0x93]
  | .subH => [0x94]
  | .subL => [0x95]
  | .subAtHl => [0x96]
  | .subA => [0x97]
  | .sbcAB => [0x98]
  | .sbcAC => [0x99]
  | .sbcAD => [0x9A]
  | .sbcAE => [0x9B]
  | .sbcAH => [0x9C]
  | .sbcAL => [0x9D]
  | .sbcAAtHl => [0x9E]
  | .sbcAA => [0x9F]
  | .andB => [0xA0]
  | .andC => [0xA1]
  | .andD => [0xA2]
  | .andE => [0xA3]
  | .andH => [0xA4]
  | .andL => [0xA5]
  | .andAtHl => [0xA6]
  | .andA => [0xA7]
  | .xorB => [0xA8]
  | .xorC => [0xA9]
  | .xorD => [0xAA]
  | .xorE => [0xAB]
  | .xorH => [0xAC]
  | .xorL => [0xAD]
  | .xorAtHl => [0xAE]
  | .xorA => [0xAF]
  | .orB => [0xB0]
  | .orC => [0xB1]
  | .orD => [0xB2]
  | .orE => [0xB3]
  | .orH => [0xB4]
  | .orL => [0xB5]
  | .orAtHl => [0xB6]
  | .orA => [0xB7]
  | .cpB => [0xB8]
  | .cpC => [0xB9]
  | .cpD => [0xBA]
  | .cpE => [0xBB]
  | .cpH => [0xBC]
  | .cpL => [0xBD]
  | .cpAtHl => [0xBE]
  | .cpA => [0xBF]
  | .retNz => [0xC0]
  | .popBc => [0xC1]
  | .pushBc => [0xC5]
  | .rst00 => [0xC7]
  | .retZ => [0xC8]
  | .ret => [0xC9]
  | .rst08 => [0xCF]
  | .retNc => [0xD0]
  | .popDe => [0xD1]
  | .illegalD3 => [0xD3]
  | .pushDe => [0xD5]
  | .rst10 => [0xD7]
  | .retC => [0xD8]
  | .reti => [0xD9]
  | .illegalDB => [0xDB]
  | .illegalDD => [0xDD]
  | .rst18 => [0xDF]
  | .popHl => [0xE1]
  | .ldAtCA => [0xE2]
  | .illegalE3 => [0xE3]
  | .illegalE4 => [0xE4]
  | .pushHl => [0xE5]
  | .rst20 => [0xE7]
  | .jpHl => [0xE9]
  | .illegalEB => [0xEB]
  | .illegalEC => [0xEC]
  | .illegalED => [0xED]
  | .rst28 => [0xEF]
  | .popAf => [0xF1]
  | .ldAAtC => [0xF2]
  | .di => [0xF3]
  | .illegalF4 => [0xF4]
  | .pushAf => [0xF5]
  | .rst30 => [0xF7]
  | .ldSpHl => [0xF9]
  | .ei => [0xFB]
  | .illegalFC => [0xFC]
  | .illegalFD => [0xFD]
  | .rst38 => [0xFF]
  | .rlcB => [0xCB, 0x00]
  | .rlcC => [0xCB, 0x01]
  | .rlcD => [0xCB, 0x02]
  | .rlcE => [0xCB, 0x03]
  | .rlcH => [0xCB, 0x04]
  | .rlcL => [0xCB, 0x05]
  | .rlcAtHl => [0xCB, 0x06]
  | .rlcA => [0xCB, 0x07]
  | .rrcB => [0xCB, 0x08]
  | .rrcC => [0xCB, 0x09]
  | .rrcD => [0xCB, 0x0A]
  | .rrcE => [0xCB, 0x0B]
  | .rrcH => [0xCB, 0x0C]
  | .rrcL => [0xCB, 0x0D]
  | .rrcAtHl => [0xCB, 0x0E]
  | .rrcA => [0xCB, 0x0F]
  | .rlB => [0xCB, 0x10]
  | .rlC => [0xCB, 0x11]
  | .rlD => [0xCB, 0x12]
  | .rlE => [0xCB, 0x13]
  | .rlH => [0xCB, 0x14]
  | .rlL => [0xCB, 0x15]
  | .rlAtHl => [0xCB, 0x16]
  | .rlA => [0xCB, 0x17]
  | .rrB => [0xCB, 0x18]
  | .rrC => [0xCB, 0x19]
  | .rrD => [0xCB, 0x1A]
  | .rrE => [0xCB, 0x1B]
  | .rrH => [0xCB, 0x1C]
  | .rrL => [0xCB, 0x1D]
  | .rrAtHl => [0xCB, 0x1E]
  | .rrA => [0xCB, 0x1F]
  | .slaB => [0xCB, 0x20]
  | .slaC => [0xCB, 0x21]
  | .slaD => [0xCB, 0x22]
  | .slaE => [0xCB, 0x23]
  | .slaH => [0xCB, 0x24]
  | .slaL => [0xCB, 0x25]
  | .slaAtHl => [0xCB, 0x26]
  | .slaA => [0xCB, 0x27]
  | .sraB => [0xCB, 0x28]
  | .sraC => [0xCB, 0x29]
  | .sraD => [0xCB, 0x2A]
  | .sraE => [0xCB, 0x2B]
  | .sraH => [0xCB, 0x2C]
  | .sraL => [0xCB, 0x2D]
  | .sraAtHl => [0xCB, 0x2E]
  | .sraA => [0xCB, 0x2F]
  | .swapB => [0xCB, 0x30]
  | .swapC => [0xCB, 0x31]
  | .swapD => [0xCB, 0x32]
  | .swapE => [0xCB, 0x33]
  | .swapH => [0xCB, 0x34]
  | .swapL => [0xCB, 0x35]
  | .swapAtHl => [0xCB, 0x36]
  | .swapA => [0xCB, 0x37]
  | .srlB => [0xCB, 0x38]
  | .srlC => [0xCB, 0x39]
  | .srlD => [0xCB, 0x3A]
  | .srlE => [0xCB, 0x3B]
  | .srlH => [0xCB, 0x3C]
  | .srlL => [0xCB, 0x3D]
  | .srlAtHl => [0xCB, 0x3E]
  | .srlA => [0xCB, 0x3F]
  | .bit0B => [0xCB, 0x40]
  | .bit0C => [0xCB, 0x41]
  | .bit0D => [0xCB, 0x42]
  | .bit0E => [0xCB, 0x43]
  | .bit0H => [0xCB, 0x44]
  | .bit0L => [0xCB, 0x45]
  | .bit0AtHl => [0xCB, 0x46]
  | .bit0A => [0xCB, 0x47]
  | .bit1B => [0xCB, 0x48]
  | .bit1C => [0xCB, 0x49]
  | .bit1D => [0xCB, 0x4A]
  | .bit1E => [0xCB, 0x4B]
  | .bit1H => [0xCB, 0x4C]
  | .bit1L => [0xCB, 0x4D]
  | .bit1AtHl => [0xCB, 0x4E]
  | .bit1A => [0xCB, 0x4F]
  | .bit2B => [0xCB, 0x50]
  | .bit2C => [0xCB, 0x51]
  | .bit2D => [0xCB, 0x52]
  | .bit2E => [0xCB, 0x53]
  | .bit2H => [0xCB, 0x54]
  | .bit2L => [0xCB, 0x55]
  | .bit2AtHl => [0xCB, 0x56]
  | .bit2A => [0xCB, 0x57]
  | .bit3B => [0xCB, 0x58]
  | .bit3C => [0xCB, 0x59]
  | .bit3D => [0xCB, 0x5A]
  | .bit3E => [0xCB, 0x5B]
  | .bit3H => [0xCB, 0x5C]
  | .bit3L => [0xCB, 0x5D]
  | .bit3AtHl => [0xCB, 0x5E]
  | .bit3A => [0xCB, 0x5F]
  | .bit4B => [0xCB, 0x60]
  | .bit4C => [0xCB, 0x61]
  | .bit4D => [0xCB, 0x62]
  | .bit4E => [0xCB, 0x63]
  | .bit4H => [0xCB, 0x64]
  | .bit4L => [0xCB, 0x65]
  | .bit4AtHl => [0xCB, 0x66]
  | .bit4A => [0xCB, 0x67]
  | .bit5B => [0xCB, 0x68]
  | .bit5C => [0xCB, 0x69]
  | .bit5D => [0xCB, 0x6A]
  | .bit5E => [0xCB, 0x6B]
  | .bit5H => [0xCB, 0x6C]
  | .bit5L => [0xCB, 0x6D]
  | .bit5AtHl => [0xCB, 0x6E]
  | .bit5A => [0xCB, 0x6F]
  | .bit6B => [0xCB, 0x70]
  | .bit6C => [0xCB, 0x71]
  | .bit6D => [0xCB, 0x72]
  | .bit6E => [0xCB, 0x73]
  | .bit6H => [0xCB, 0x74]
  | .bit6L => [0xCB, 0x75]
  | .bit6AtHl => [0xCB, 0x76]
  | .bit6A => [0xCB, 0x77]
  | .bit7B => [0xCB, 0x78]
  | .bit7C => [0xCB, 0x79]
  | .bit7D => [0xCB, 0x7A]
  | .bit7E => [0xCB, 0x7B]
  | .bit7H => [0xCB, 0x7C]
  | .bit7L => [0xCB, 0x7D]
  | .bit7AtHl => [0xCB, 0x7E]
  | .bit7A => [0xCB, 0x7F]
  | .res0B => [0xCB, 0x80]
  | .res0C => [0xCB, 0x81]
  | .res0D => [0xCB, 0x82]
  | .res0E => [0xCB, 0x83]
  | .res0H => [0xCB, 0x84]
  | .res0L => [0xCB, 0x85]
  | .res0AtHl => [0xCB, 0x86]
  | .res0A => [0xCB, 0x87]
  | .res1B => [0xCB, 0x88]
  | .res1C => [0xCB, 0x89]
  | .res1D => [0xCB, 0x8A]
  | .res1E => [0xCB, 0x8B]
  | .res1H => [0xCB, 0x8C]
  | .res1L => [0xCB, 0x8D]
  | .res1AtHl => [0xCB, 0x8E]
  | .res1A => [0xCB, 0x8F]
  | .res2B => [0xCB, 0x90]
  | .res2C => [0xCB, 0x91]
  | .res2D => [0xCB, 0x92]
  | .res2E => [0xCB, 0x93]
  | .res2H => [0xCB, 0x94]
  | .res2L => [0xCB, 0x95]
  | .res2AtHl => [0xCB, 0x96]
  | .res2A => [0xCB, 0x97]
  | .res3B => [0xCB, 0x98]
  | .res3C => [0xCB, 0x99]
  | .res3D => [0xCB, 0x9A]
  | .res3E => [0xCB, 0x9B]
  | .res3H => [0xCB, 0x9C]
  | .res3L => [0xCB, 0x9D]
  | .res3AtHl => [0xCB, 0x9E]
  | .res3A => [0xCB, 0x9F]
  | .res4B => [0xCB, 0xA0]
  | .res4C => [0xCB, 0xA1]
  | .res4D => [0xCB, 0xA2]
  | .res4E => [0xCB, 0xA3]
  | .res4H => [0xCB, 0xA4]
  | .res4L => [0xCB, 0xA5]
  | .res4AtHl => [0xCB, 0xA6]
  | .res4A => [0xCB, 0xA7]
  | .res5B => [0xCB, 0xA8]
  | .res5C => [0xCB, 0xA9]
  | .res5D => [0xCB, 0xAA]
  | .res5E => [0xCB, 0xAB]
  | .res5H => [0xCB, 0xAC]
  | .res5L => [0xCB, 0xAD]
  | .res5AtHl => [0xCB, 0xAE]
  | .res5A => [0xCB, 0xAF]
  | .res6B => [0xCB, 0xB0]
  | .res6C => [0xCB, 0xB1]
  | .res6D => [0xCB, 0xB2]
  | .res6E => [0xCB, 0xB3]
  | .res6H => [0xCB, 0xB4]
  | .res6L => [0xCB, 0xB5]
  | .res6AtHl => [0xCB, 0xB6]
  | .res6A => [0xCB, 0xB7]
  | .res7B => [0xCB, 0xB8]
  | .res7C => [0xCB, 0xB9]
  | .res7D => [0xCB, 0xBA]
  | .res7E => [0xCB, 0xBB]
  | .res7H => [0xCB, 0xBC]
  | .res7L => [0xCB, 0xBD]
  | .res7AtHl => [0xCB, 0xBE]
  | .res7A => [0xCB, 0xBF]
  | .set0B => [0xCB, 0xC0]
  | .set0C => [0xCB, 0xC1]
  | .set0D => [0xCB, 0xC2]
  | .set0E => [0xCB, 0xC3]
  | .set0H => [0xCB, 0xC4]
  | .set0L => [0xCB, 0xC5]
  | .set0AtHl => [0xCB, 0xC6]
  | .set0A => [0xCB, 0xC7]
  | .set1B => [0xCB, 0xC8]
  | .set1C => [0xCB, 0xC9]
  | .set1D => [0xCB, 0xCA]
  | .set1E => [0xCB, 0xCB]
  | .set1H => [0xCB, 0xCC]
  | .set1L => [0xCB, 0xCD]
  | .set1AtHl => [0xCB, 0xCE]
  | .set1A => [0xCB, 0xCF]
  | .set2B => [0xCB, 0xD0]
  | .set2C => [0xCB, 0xD1]
  | .set2D => [0xCB, 0xD2]
  | .set2E => [0xCB, 0xD3]
  | .set2H => [0xCB, 0xD4]
  | .set2L => [0xCB, 0xD5]
  | .set2AtHl => [0xCB, 0xD6]
  | .set2A => [0xCB, 0xD7]
  | .set3B => [0xCB, 0xD8]
  | .set3C => [0xCB, 0xD9]
  | .set3D => [0xCB, 0xDA]
  | .set3E => [0xCB, 0xDB]
  | .set3H => [0xCB, 0xDC]
  | .set3L => [0xCB, 0xDD]
  | .set3AtHl => [0xCB, 0xDE]
  | .set3A => [0xCB, 0xDF]
  | .set4B => [0xCB, 0xE0]
  | .set4C => [0xCB, 0xE1]
  | .set4D => [0xCB, 0xE2]
  | .set4E => [0xCB, 0xE3]
  | .set4H => [0xCB, 0xE4]
  | .set4L => [0xCB, 0xE5]
  | .set4AtHl => [0xCB, 0xE6]
  | .set4A => [0xCB, 0xE7]
  | .set5B => [0xCB, 0xE8]
  | .set5C => [0xCB, 0xE9]
  | .set5D => [0xCB, 0xEA]
  | .set5E => [0xCB, 0xEB]
  | .set5H => [0xCB, 0xEC]
  | .set5L => [0xCB, 0xED]
  | .set5AtHl => [0xCB, 0xEE]
  | .set5A => [0xCB, 0xEF]
  | .set6B => [0xCB, 0xF0]
  | .set6C => [0xCB, 0xF1]
  | .set6D => [0xCB, 0xF2]
  | .set6E => [0xCB, 0xF3]
  | .set6H => [0xCB, 0xF4]
  | .set6L => [0xCB, 0xF5]
  | .set6AtHl => [0xCB, 0xF6]
  | .set6A => [0xCB, 0xF7]
  | .set7B => [0xCB, 0xF8]
  | .set7C => [0xCB, 0xF9]
  | .set7D => [0xCB, 0xFA]
  | .set7E => [0xCB, 0xFB]
  | .set7H => [0xCB, 0xFC]
  | .set7L => [0xCB, 0xFD]
  | .set7AtHl => [0xCB, 0xFE]
  | .set7A => [0xCB, 0xFF]

/-- How many bytes an instruction has (R60). -/
def Instr.length (i : Instr) : Nat := (encode i).length

end Sys2Proof
end

