-- ==== Sys2Proof/Machine/Cycles.lean ====
section
/-! DEFINITION. The parameter CYCLES: M-cycles per instruction, the table of spec/70_reset_and_hazards.md R287 as
data (D21). -/

namespace Sys2Proof.Machine

/-- The rows of the table of R287, conditional forms split into taken and not taken. -/
inductive CostRow where
  | nop | ldRegReg | ldRegMem | ldAccPair | ldAccStep | ldRegImm | ldMemImm | ldPairImm | ldAccAbs | ldhImm
  | ldHighC | ldHlSp | ldSpHl | ldAbsSp | push | pop
  | aluReg | aluMem | aluImm | incDecReg | incDecMem | accFlags | addHl | incDecPair | addSp
  | rotateA | shiftReg | shiftMem | bitReg | bitMem | resSetReg | resSetMem
  | jp | jpCond (taken : Bool) | jpHl | jr | jrCond (taken : Bool) | djnz (taken : Bool)
  | call | callCond (taken : Bool) | ret | retCond (taken : Bool) | reti | rst
  | halt | diEi | illegal | interruptEntry
  deriving DecidableEq, Repr

/-- M-cycles of each row (R287; the increments of the conditional forms are R288). -/
def cycles : CostRow → Nat
  | .nop => 1
  | .ldRegReg => 1
  | .ldRegMem => 2
  | .ldAccPair => 2
  | .ldAccStep => 2
  | .ldRegImm => 2
  | .ldMemImm => 3
  | .ldPairImm => 3
  | .ldAccAbs => 4
  | .ldhImm => 3
  | .ldHighC => 2
  | .ldHlSp => 3
  | .ldSpHl => 2
  | .ldAbsSp => 5
  | .push => 3
  | .pop => 3
  | .aluReg => 1
  | .aluMem => 2
  | .aluImm => 2
  | .incDecReg => 1
  | .incDecMem => 3
  | .accFlags => 1
  | .addHl => 2
  | .incDecPair => 2
  | .addSp => 4
  | .rotateA => 1
  | .shiftReg => 2
  | .shiftMem => 4
  | .bitReg => 2
  | .bitMem => 3
  | .resSetReg => 2
  | .resSetMem => 4
  | .jp => 4
  | .jpCond taken => if taken then 4 else 3
  | .jpHl => 1
  | .jr => 3
  | .jrCond taken => if taken then 3 else 2
  | .djnz taken => if taken then 3 else 2
  | .call => 6
  | .callCond taken => if taken then 6 else 3
  | .ret => 4
  | .retCond taken => if taken then 5 else 2
  | .reti => 4
  | .rst => 4
  | .halt => 1
  | .diEi => 1
  | .illegal => 0
  | .interruptEntry => 4

/-- T-states per M-cycle (R22, R286). -/
def statesPerCycle : Nat := 4

end Sys2Proof.Machine
end

