-- ==== Sys2Proof/Config.lean ====
section
/-! DEFINITION. The open parameters of spec/00_scope.md R4 as data: INIT, CB_RES_SET, and what memory holds before
anything is written. CYCLES is Machine/Cycles.lean. -/

namespace Sys2Proof

/-- The parameter INIT of R4 and R28: the values `reset()` installs in the registers the spec gives no reset
value. R28 asks that `INIT.F & 0x0F = 0`: INIT.F is given by its four flags, so no other value can be written. -/
structure Init where
  a : Byte
  b : Byte
  c : Byte
  d : Byte
  e : Byte
  h : Byte
  l : Byte
  /-- Z, N, H, C: bits 7 to 4 of INIT.F. -/
  flags : BitVec 4
  pc : Word
  sp : Word
  r : BitVec 7
  deriving DecidableEq, Repr

/-- INIT.F: the four flags over a zero low nibble (R4, R15, R28). -/
def Init.f (i : Init) : Byte := i.flags ++ 0#4

/-- The parameter CB_RES_SET of R4 and R71: whether the CB second bytes 0x80 to 0xFF are RES and SET. -/
inductive CbResSet where
  /-- The default: those bytes go to the illegal-opcode handler. -/
  | illegal
  /-- Those bytes are RES and SET. -/
  | implemented
  deriving DecidableEq, Repr

/-- DESIGN CHOICE (log 1, unsafe): the spec leaves INIT open (D6); the model's reset takes zero everywhere. -/
def Config.init : Init :=
  { a := 0, b := 0, c := 0, d := 0, e := 0, h := 0, l := 0, flags := 0, pc := 0, sp := 0, r := 0 }

/-- DESIGN CHOICE (log 2, unsafe): what a byte of memory that nothing has written reads as. -/
def Config.unlistedByte : Byte := 0#8

end Sys2Proof
end

