-- ==== Sys2Proof/Machine/State.lean ====
section
/-! DEFINITION. The state of the core (spec/10_state.md), with what stands behind its memory port, as plain data; the
reasons a step can stop; and the state after reset. -/

namespace Sys2Proof.Machine

/-- Addresses, from `first` to `last`, both included, at which the memory interface does not serve as a RAM: it
refuses reads or writes (spec/20_memory.md R45), or accepts writes and discards them, as a ROM does (R41). -/
structure Region where
  first : Nat
  last : Nat
  refusesRead : Bool
  refusesWrite : Bool
  discardsWrite : Bool
  deriving DecidableEq, Repr

/-- What the memory interface answers to one access of one byte. By R41 it may answer a read with any byte or a fault,
and accept or refuse a write; the core assumes nothing about the answer. -/
inductive Answer where
  /-- As the regions and the bytes of the RAM say. -/
  | ram
  /-- Something other than the RAM answers: a read gets `value`, a write is accepted and does not reach the RAM. -/
  | device (value : Byte)
  /-- The access is refused: MemFault (R45). -/
  | refuse
  deriving DecidableEq, Repr

/-- What the core reports with an illegal opcode: the pair (address, byte) of spec/60_exceptions.md R263. -/
structure IllegalOpcode where
  address : Word
  byte : Byte
  deriving DecidableEq, Repr

/-- The machine. The fields to `clkT` are the state of spec/10_state.md section 1, complete by R30; the pairs
BC, DE, HL, AF are computed (R11). The others are the model's own: the parameter MEM of the step relation (R4, R24,
R41), which is `mem`, `regions` and `answers` (log 2, log 3); the parameter CB_RES_SET (R4, log 4); and the reports to
the host (R263, log 5). -/
structure State where
  /-- A, the accumulator (R10). -/
  a : Byte
  b : Byte
  c : Byte
  d : Byte
  e : Byte
  h : Byte
  l : Byte
  /-- F: Z, N, H, C in bits 7 to 4, the low nibble always zero (R14, R15). -/
  f : Byte
  /-- PC (R12). -/
  pc : Word
  /-- SP (R13). -/
  sp : Word
  /-- R, the 7-bit refresh counter (R18). -/
  r : BitVec 7
  /-- IME (R19). -/
  ime : Bool
  /-- The hold bit HALT sets (R20). -/
  halt : Bool
  /-- The hold bit an illegal opcode or the host sets (R21). -/
  stop : Bool
  /-- M, the M-cycles of the last instruction (R22). -/
  m : Nat
  /-- T, the T-states of the last instruction (R22). -/
  t : Nat
  /-- CLK_M, the total of M since reset (R23). -/
  clkM : Nat
  /-- CLK_T, the total of T since reset (R23). -/
  clkT : Nat
  /-- MEM: the bytes of the RAM behind the memory port, in the canonical form `Memory.wf`. -/
  mem : List Host.Cell
  /-- MEM: where the interface refuses accesses or discards writes. No step changes it. -/
  regions : List Region
  /-- MEM: the oracle's answers to the accesses to come. The first entry for an address answers the next byte access
  there and is taken by it; with none left for an address, `Answer.ram` is the answer there. -/
  answers : List (Word × Answer)
  /-- The parameter CB_RES_SET. No step changes it. -/
  cbResSet : CbResSet
  /-- The IllegalOpcode reports so far, the oldest first. -/
  reports : List IllegalOpcode
  deriving DecidableEq, Repr

/-- Why the machine stops with a fault. -/
inductive Fault where
  /-- The memory interface refused an access (R45, R261; `AddressOutOfRange`). Raised by every fetch, load and
  store that a region of MEM or the next of its answers refuses. SAFE: the spec gives no state after it (D9), and the model gives
  none. -/
  | memFault
  deriving DecidableEq, Repr

/-- Why the machine has no meaning for an instruction. -/
inductive Refusal where
  /-- The instruction has no meaning in the model yet. Raised by no arm: every instruction is modelled. SAFE. -/
  | notModelled (mnemonic : String)
  deriving DecidableEq, Repr

/-- What an instruction or a step answers. -/
abbrev Res := Host.Outcome State Fault Refusal

/-- The state after `reset()` with the parameter INIT (R28, R281): the registers from INIT, IME = 1, the hold bits,
M, T and the totals 0. MEM is a plain RAM with nothing written (log 2, log 3). -/
def State.resetWith (init : Init) : State :=
  { a := init.a, b := init.b, c := init.c, d := init.d, e := init.e, h := init.h, l := init.l, f := init.f
    pc := init.pc, sp := init.sp, r := init.r
    ime := true, halt := false, stop := false
    m := 0, t := 0, clkM := 0, clkT := 0
    mem := [], regions := [], answers := [], cbResSet := .illegal, reports := [] }

/-- The state after reset, with the model's choice of INIT (log 1). -/
def State.reset : State := State.resetWith Config.init

end Sys2Proof.Machine
end

