-- ==== Sys2Proof/Machine/Ops.lean ====
section
/-! DEFINITION. The named operations over memory and registers: the bytes behind the port, the four accesses of the
memory interface, the register views, the stack primitives, the cost of an instruction, and taking and leaving the
one exception of the core. -/

namespace Sys2Proof.Machine

/-! ### The bytes behind the memory port -/

/-- The byte at an address: the listed one, or `Config.unlistedByte`. -/
def Memory.read : List Host.Cell → Nat → Byte
  | [], _ => Config.unlistedByte
  | (k, v) :: rest, a => if k = a then v else Memory.read rest a

/-- The memory without an entry for `a`. -/
def Memory.erase (a : Nat) : List Host.Cell → List Host.Cell
  | [] => []
  | (k, v) :: rest => if k = a then Memory.erase a rest else (k, v) :: Memory.erase a rest

/-- The memory with an entry put before the first higher address. -/
def Memory.insert (a : Nat) (v : Byte) : List Host.Cell → List Host.Cell
  | [] => [(a, v)]
  | (k, w) :: rest => if a < k then (a, v) :: (k, w) :: rest else (k, w) :: Memory.insert a v rest

/-- The memory after a byte is written; writing what an unlisted address reads as removes the entry. -/
def Memory.write (mem : List Host.Cell) (a : Nat) (v : Byte) : List Host.Cell :=
  if v = Config.unlistedByte then Memory.erase a mem else Memory.insert a v (Memory.erase a mem)

/-- The canonical form of entries at `low` or above. -/
def Memory.wfFrom (low : Nat) : List Host.Cell → Bool
  | [] => true
  | (k, v) :: rest =>
    decide (low ≤ k) && decide (k < 65536) && decide (v ≠ Config.unlistedByte) && Memory.wfFrom (k + 1) rest

/-- The canonical form: addresses below 65536 (R40), strictly rising, no entry equal to the unlisted byte. -/
def Memory.wf (mem : List Host.Cell) : Bool := Memory.wfFrom 0 mem

/-! ### The memory interface (spec/20_memory.md R41 to R45) -/

/-! MEM is an oracle (R41): it may answer each access as it likes. Its answers are kept by address, so that no claim can
depend on the order of two accesses of one instruction at different addresses (R47). -/

/-- The first answer for an address; the RAM's when none is left. -/
def Answers.next (a : Word) : List (Word × Answer) → Answer
  | [] => .ram
  | (k, x) :: rest => if k = a then x else Answers.next a rest

/-- The answers without the first one for an address. -/
def Answers.past (a : Word) : List (Word × Answer) → List (Word × Answer)
  | [] => []
  | (k, x) :: rest => if k = a then rest else (k, x) :: Answers.past a rest

/-- The answer to the next access at an address. -/
def State.nextAnswer (s : State) (a : Word) : Answer := Answers.next a s.answers

/-- The state after accesses at these addresses, the RAM not written: each takes one answer. -/
def State.accessed (s : State) (addresses : List Word) : State :=
  { s with answers := addresses.foldl (fun rest a => Answers.past a rest) s.answers }

/-- Whether an address lies in a region. -/
def Region.covers (g : Region) (a : Word) : Bool := decide (g.first ≤ a.toNat) && decide (a.toNat ≤ g.last)

/-- Whether the interface answers the next access at `a`, a read, with a byte. -/
def State.canRead (s : State) (a : Word) : Bool :=
  match s.nextAnswer a with
  | .ram => !s.regions.any fun g => g.refusesRead && g.covers a
  | .device _ => true
  | .refuse => false

/-- Whether the interface accepts the next access at `a`, a write. -/
def State.canWrite (s : State) (a : Word) : Bool :=
  match s.nextAnswer a with
  | .ram => !s.regions.any fun g => g.refusesWrite && g.covers a
  | .device _ => true
  | .refuse => false

/-- Whether the next access at `a`, a write, reaches the RAM if it is accepted. -/
def State.keepsWrite (s : State) (a : Word) : Bool :=
  match s.nextAnswer a with
  | .ram => !s.regions.any fun g => g.discardsWrite && g.covers a
  | .device _ => false
  | .refuse => false

/-- The byte the RAM holds at `a`. -/
def State.peek (s : State) (a : Word) : Byte := Memory.read s.mem a.toNat

/-- The state with `v` in the RAM at `a`. -/
def State.poke (s : State) (a : Word) (v : Byte) : State := { s with mem := Memory.write s.mem a.toNat v }

/-- The byte the next access at `a`, a read, gets if it is answered. -/
def State.readValue (s : State) (a : Word) : Byte :=
  match s.nextAnswer a with
  | .device v => v
  | _ => s.peek a

/-- The state after the next access at `a`, a write of `v`, is accepted. -/
def State.written (s : State) (a : Word) (v : Byte) : State :=
  { s with
    mem := if s.keepsWrite a then Memory.write s.mem a.toNat v else s.mem
    answers := Answers.past a s.answers }

/-- `readByte`: the byte the oracle answers and the state with that answer taken; `none` for MemFault. -/
def State.readByte (s : State) (a : Word) : Option (Byte × State) :=
  if s.canRead a then some (s.readValue a, s.accessed [a]) else none

/-- `writeByte`, `none` for MemFault. -/
def State.writeByte (s : State) (a : Word) (v : Byte) : Option State :=
  if s.canWrite a then some (s.written a v) else none

/-- `readWord`: low byte at `a`, then high byte at `a + 1` modulo 65536 (R42, R43). -/
def State.readWord (s : State) (a : Word) : Option (Word × State) :=
  (s.readByte a).bind fun lo => (lo.2.readByte (a + 1)).bind fun hi => some (joinBytes hi.1 lo.1, hi.2)

/-- `writeWord`: low byte at `a`, then high byte at `a + 1` modulo 65536 (R42, R43). -/
def State.writeWord (s : State) (a : Word) (v : Word) : Option State :=
  (s.writeByte a (loByte v)).bind fun s' => s'.writeByte (a + 1) (hiByte v)

/-- Go on with what an access gave, or end in the fault of the memory interface (R261). -/
def orFault {α : Type} (x : Option α) (k : α → Res) : Res :=
  match x with
  | some v => k v
  | none => .fault .memFault

/-! ### Registers (spec/10_state.md R10 to R13) -/

/-- `r8[i]` read. -/
def State.r8 (s : State) : R8 → Byte
  | .b => s.b
  | .c => s.c
  | .d => s.d
  | .e => s.e
  | .h => s.h
  | .l => s.l
  | .a => s.a

/-- `r8[i] <- v`. -/
def State.setR8 (s : State) (x : R8) (v : Byte) : State :=
  match x with
  | .b => { s with b := v }
  | .c => { s with c := v }
  | .d => { s with d := v }
  | .e => { s with e := v }
  | .h => { s with h := v }
  | .l => { s with l := v }
  | .a => { s with a := v }

/-- BC, DE, HL and AF as views (R11). -/
def State.bc (s : State) : Word := joinBytes s.b s.c
def State.de (s : State) : Word := joinBytes s.d s.e
def State.hl (s : State) : Word := joinBytes s.h s.l
def State.af (s : State) : Word := joinBytes s.a s.f

/-- `HL <- v` (R11). -/
def State.setHl (s : State) (v : Word) : State := { s with h := hiByte v, l := loByte v }

/-- `rp[p]` read (R63). -/
def State.rp (s : State) : Rp → Word
  | .bc => s.bc
  | .de => s.de
  | .hl => s.hl
  | .sp => s.sp

/-- `rp[p] <- v`, both halves written (R11). -/
def State.setRp (s : State) (p : Rp) (v : Word) : State :=
  match p with
  | .bc => { s with b := hiByte v, c := loByte v }
  | .de => { s with d := hiByte v, e := loByte v }
  | .hl => s.setHl v
  | .sp => { s with sp := v }

/-- `rp2[p]` read (R63). -/
def State.rp2 (s : State) : Rp2 → Word
  | .bc => s.bc
  | .de => s.de
  | .hl => s.hl
  | .af => s.af

/-- `rp2[p] <- v`; a write to AF zeroes the low nibble of F (R11, R207). -/
def State.setRp2 (s : State) (p : Rp2) (v : Word) : State :=
  match p with
  | .bc => { s with b := hiByte v, c := loByte v }
  | .de => { s with d := hiByte v, e := loByte v }
  | .hl => s.setHl v
  | .af => { s with a := hiByte v, f := loByte v &&& 0xF0#8 }

/-- `PC <- v`. -/
def State.setPc (s : State) (v : Word) : State := { s with pc := v }

/-- `SP <- v`. -/
def State.setSp (s : State) (v : Word) : State := { s with sp := v }

/-! ### Stack primitives (spec/44_load_store.md R208) -/

/-- `Push16(v)`: the high byte at SP - 1, then the low byte at SP - 2. -/
def State.push16 (s : State) (v : Word) : Option State :=
  ((s.setSp (s.sp - 1)).writeByte (s.sp - 1) (hiByte v)).bind fun s' =>
    (s'.setSp (s'.sp - 1)).writeByte (s'.sp - 1) (loByte v)

/-- `Pop16()`: the low byte at SP, then the high byte at SP + 1; the word and the state with SP past it. -/
def State.pop16 (s : State) : Option (Word × State) :=
  (s.readByte s.sp).bind fun lo =>
    (lo.2.readByte (s.sp + 1)).bind fun hi => some (joinBytes hi.1 lo.1, hi.2.setSp (s.sp + 2))

/-! ### Cost and accounting (spec/40_dispatch.md R87) -/

/-- `cost m`: M is the entry of CYCLES, T four times it. -/
def State.charge (s : State) (row : CostRow) : State :=
  { s with m := cycles row, t := statesPerCycle * cycles row }

/-- The last line of a step: M and T are added to the totals (R80, R23). -/
def State.account (s : State) : State := { s with clkM := s.clkM + s.m, clkT := s.clkT + s.t }

/-! ### Run state, the exception and the return from it -/

/-- `haltedOrStopped()` (R21). -/
def State.haltedOrStopped (s : State) : Bool := s.halt || s.stop

/-- `raise IllegalOpcode(address, byte)`, the illegal-opcode handler (R84, R264): `stop` is set, M and T are zero,
the pair is reported (R263). There is no vector, no saved register and no transfer of control. -/
def State.raiseIllegal (s : State) (address : Word) (byte : Byte) : State :=
  { s.charge .illegal with stop := true, reports := s.reports ++ [{ address := address, byte := byte }] }

/-- `HostResume()`, the host's return from an illegal opcode (R265): `stop` is cleared and nothing else changes, so
that the next step fetches past the illegal bytes. -/
def State.hostResume (s : State) : State := { s with stop := false }

end Sys2Proof.Machine
end

