-- ==== Sys2Proof/Machine/Flags.lean ====
section
/-! DEFINITION. The flag register and every computation of a result with its flags: the accumulator operations
(spec/41_alu8.md R100), increment and decrement, DAA, the 16-bit additions, the rotates and shifts
(spec/43_rotate_shift_bit.md R149). Operands are taken as numbers, the exact result computed, then narrowed. -/

namespace Sys2Proof.Machine

/-! ### The flag byte (spec/10_state.md R14 to R17) -/

/-- The four flags (R16). -/
inductive Flag where
  | zero | subtract | halfCarry | carry
  deriving DecidableEq, Repr

/-- The bit of F that holds a flag (R14). -/
def Flag.bit : Flag → Nat
  | .zero => 7
  | .subtract => 6
  | .halfCarry => 5
  | .carry => 4

/-- `getFlag(kind)` (R16). -/
def State.getFlag (s : State) (k : Flag) : Bool := s.f.getLsbD k.bit

/-- `setFlag(kind, v)`: that one bit of F and no other (R16). -/
def State.setFlag (s : State) (k : Flag) (v : Bool) : State :=
  { s with f := if v then s.f ||| (1#8 <<< k.bit) else s.f &&& ~~~(1#8 <<< k.bit) }

/-- The flag byte with the low nibble zero, as `SetFlags` writes it (R15). -/
def flagByte (z n h c : Bool) : Byte :=
  (if z then 0x80#8 else 0#8) ||| (if n then 0x40#8 else 0#8) ||| (if h then 0x20#8 else 0#8) |||
    (if c then 0x10#8 else 0#8)

/-- `SetFlags(z, n, h, c)`. -/
def State.setFlags (s : State) (z n h c : Bool) : State := { s with f := flagByte z n h c }

/-- The document's helper `writeZeroFlag(result, isSubtraction)` (R17). No instruction is defined through it. -/
def State.writeZeroFlag (s : State) (result : Byte) (isSubtraction : Bool) : State :=
  s.setFlags (result == 0#8) isSubtraction false false

/-- `F.Z`, `F.N`, `F.H`, `F.C`. -/
def State.flagZ (s : State) : Bool := s.getFlag .zero
def State.flagN (s : State) : Bool := s.getFlag .subtract
def State.flagH (s : State) : Bool := s.getFlag .halfCarry
def State.flagC (s : State) : Bool := s.getFlag .carry

/-- `cond(cc)` (R220). -/
def State.cond (s : State) : Cond → Bool
  | .nz => !s.flagZ
  | .z => s.flagZ
  | .nc => !s.flagC
  | .c => s.flagC

/-! ### The accumulator operations (R100) -/

/-- A result byte with the four flags. -/
structure Result8 where
  res : Byte
  z : Bool
  n : Bool
  h : Bool
  c : Bool
  deriving DecidableEq, Repr

/-- `t mod 256` of the exact sum, with the carries out of bit 3 and bit 7. -/
def addCarry (a b : Byte) (cin : Nat) : Result8 :=
  let t := a.toNat + b.toNat + cin
  { res := BitVec.ofNat 8 t
    z := BitVec.ofNat 8 t == 0#8
    n := false
    h := decide (a.toNat % 16 + b.toNat % 16 + cin > 15)
    c := decide (t > 255) }

/-- `t mod 256` of the exact difference, with the borrows out of bit 3 and bit 7. -/
def subBorrow (a b : Byte) (cin : Nat) : Result8 :=
  let t : Int := (a.toNat : Int) - b.toNat - cin
  { res := BitVec.ofInt 8 t
    z := BitVec.ofInt 8 t == 0#8
    n := true
    h := decide (((a.toNat % 16 : Nat) : Int) - (b.toNat % 16 : Nat) - cin < 0)
    c := decide (t < 0) }

/-- A logic operation: Z from the result, N = C = 0, H as given. -/
def logic (res : Byte) (h : Bool) : Result8 := { res := res, z := res == 0#8, n := false, h := h, c := false }

/-- `ALU(op, a, b, cin)` (R100). -/
def alu (op : AluOp) (a b : Byte) (cin : Bool) : Result8 :=
  match op with
  | .add => addCarry a b 0
  | .adc => addCarry a b cin.toNat
  | .sub => subBorrow a b 0
  | .sbc => subBorrow a b cin.toNat
  | .and => logic (a &&& b) true
  | .xor => logic (a ^^^ b) false
  | .or => logic (a ||| b) false
  | .cp => subBorrow a b 0

/-- The accumulator operation on the state: `A <- res` but for CP, then all four flags. -/
def State.aluWith (s : State) (op : AluOp) (b : Byte) : State :=
  let r := alu op s.a b s.flagC
  let s' := match op with
    | .cp => s
    | _ => { s with a := r.res }
  s'.setFlags r.z r.n r.h r.c

/-! ### Increment and decrement (R125, R127) -/

/-- `v + 1`, with H set exactly when the low nibble was 0xF. -/
def incByte (v : Byte) (c : Bool) : Result8 :=
  let res := BitVec.ofNat 8 (v.toNat + 1)
  { res := res, z := res == 0#8, n := false, h := v.toNat % 16 == 15, c := c }

/-- `v - 1`, with H set exactly when the low nibble was 0. -/
def decByte (v : Byte) (c : Bool) : Result8 :=
  let res := BitVec.ofInt 8 ((v.toNat : Int) - 1)
  { res := res, z := res == 0#8, n := true, h := v.toNat % 16 == 0, c := c }

/-! ### Decimal adjust (R132) -/

/-- DAA on A with the flags N, H, C. -/
def daa (a : Byte) (n h c : Bool) : Result8 :=
  if n then
    let a1 := if c then a - 0x60#8 else a
    let a2 := if h then a1 - 0x06#8 else a1
    { res := a2, z := a2 == 0#8, n := n, h := false, c := c }
  else
    let high := c || decide (a.toNat > 0x99)
    let a1 := if high then a + 0x60#8 else a
    let a2 := if h || decide (a1.toNat % 16 > 9) then a1 + 0x06#8 else a1
    { res := a2, z := a2 == 0#8, n := n, h := false, c := high }

/-! ### 16-bit additions (R140, R146, R201) -/

/-- The carry out of bit 15 of a 16-bit sum (R140). -/
def carry16 (x y : Word) : Bool := decide (x.toNat + y.toNat > 65535)

/-- The carry out of bit 3 of SP's low byte plus the operand byte, taken unsigned (R146). -/
def spHalf (sp : Word) (e : Byte) : Bool := decide (sp.toNat % 16 + e.toNat % 16 > 15)

/-- The carry out of bit 7 of SP's low byte plus the operand byte, taken unsigned (R146). -/
def spCarry (sp : Word) (e : Byte) : Bool := decide (sp.toNat % 256 + e.toNat > 255)

/-! ### Rotates and shifts (R149) -/

/-- A bit at position `k`. -/
def bitAt (b : Bool) (k : Nat) : Byte := if b then 1#8 <<< k else 0#8

/-- The result byte and the bit shifted out. -/
def shift (op : ShiftOp) (v : Byte) (cin : Bool) : Byte × Bool :=
  match op with
  | .rlc => ((v <<< 1) ||| bitAt (v.getLsbD 7) 0, v.getLsbD 7)
  | .rrc => ((v >>> 1) ||| bitAt (v.getLsbD 0) 7, v.getLsbD 0)
  | .rl => ((v <<< 1) ||| bitAt cin 0, v.getLsbD 7)
  | .rr => ((v >>> 1) ||| bitAt cin 7, v.getLsbD 0)
  | .sla => (v <<< 1, v.getLsbD 7)
  | .sra => ((v >>> 1) ||| (v &&& 0x80#8), v.getLsbD 0)
  | .swap => ((v <<< 4) ||| (v >>> 4), false)
  | .srl => (v >>> 1, v.getLsbD 0)

/-- The flags of the CB forms: Z from the result, N = H = 0, C the bit shifted out. -/
def State.setShiftFlags (s : State) (r : Byte × Bool) : State := s.setFlags (r.1 == 0#8) false false r.2

/-- The flags of BIT: Z the complement of the tested bit, N = 0, H = 1, C kept (R170). -/
def State.setBitFlags (s : State) (b : Fin 8) (v : Byte) : State := s.setFlags (!v.getLsbD b) false true s.flagC

end Sys2Proof.Machine
end

