-- ==== Sys2Proof/Machine/Operands.lean ====
section
/-! DEFINITION. The operand forms (spec/30_encoding.md R62 to R65, spec/44_load_store.md): register, byte at an
address, immediate; and the effective addresses an instruction forms. An instruction's meaning starts with PC past
all its bytes, since its operand bytes are already fetched (log 10). -/

namespace Sys2Proof.Machine

/-- `0xFF00 + n`, the high-page address of LDH and of the `(C)` forms (R197 to R200). -/
def highPage (n : Byte) : Word := 0xFF00#16 + zext16 n

/-- The target of a relative jump: PC, past the operand, plus the signed displacement (R224). -/
def State.relTarget (s : State) (e : Byte) : Word := s.pc + sext16 e

/-- `SP + sext_16(e)` (R146, R201). -/
def State.spOffset (s : State) (e : Byte) : Word := s.sp + sext16 e

/-- Read a byte operand at an address and go on with it and the state after the read. -/
def State.withByteAt (s : State) (a : Word) (k : Byte → State → State) : Res :=
  orFault (s.readByte a) fun got => .next (k got.1 got.2)

/-- Store a byte at an address and go on with the state after the store. -/
def State.storeThen (s : State) (a : Word) (v : Byte) (k : State → State) : Res :=
  orFault (s.writeByte a v) fun s' => .next (k s')

/-- Read the byte at an address, write `g v` back there, then go on: the read-modify-write forms (R46). -/
def State.modifyByteAt (s : State) (a : Word) (g : Byte → Byte) (k : Byte → State → State) : Res :=
  orFault (s.readByte a) fun got => orFault (got.2.writeByte a (g got.1)) fun s' => .next (k got.1 s')

end Sys2Proof.Machine
end

