-- ==== Sys2Proof/Machine/AccFlags.lean ====
section
/-! DEFINITION. CPL, CCF, SCF and DAA (spec/41_alu8.md R129 to R132). -/

namespace Sys2Proof.Machine

/-- `A <- A ^ 0xFF`, N = H = 1 (R129). -/
def complementA (s : State) : Res :=
  .next ((({ s with a := s.a ^^^ 0xFF#8 }).setFlags s.flagZ true true s.flagC).charge .accFlags)

/-- Carry toggled, N = H = 0 (R130). -/
def complementCarry (s : State) : Res := .next ((s.setFlags s.flagZ false false (!s.flagC)).charge .accFlags)

/-- Carry set, N = H = 0 (R131). -/
def setCarry (s : State) : Res := .next ((s.setFlags s.flagZ false false true).charge .accFlags)

/-- Decimal adjust (R132). -/
def decimalAdjust (s : State) : Res :=
  let r := daa s.a s.flagN s.flagH s.flagC
  .next ((({ s with a := r.res }).setFlags r.z r.n r.h r.c).charge .accFlags)

/-- `DAA` (R132). -/
def execDaa (s : State) : Res := decimalAdjust s

/-- `CPL` (R129). -/
def execCpl (s : State) : Res := complementA s

/-- `SCF` (R131). -/
def execScf (s : State) : Res := setCarry s

/-- `CCF` (R130). -/
def execCcf (s : State) : Res := complementCarry s

end Sys2Proof.Machine
end

