-- ==== Sys2Proof/Machine/Alu16.lean ====
section
/-! DEFINITION. 16-bit arithmetic (spec/42_alu16.md R140 to R146). -/

namespace Sys2Proof.Machine

/-- `HL <- HL + rp[p]`; of the flags only Carry is written (R140, R141). -/
def addHlPair (p : Rp) (s : State) : Res :=
  .next (((s.setHl (s.hl + s.rp p)).setFlags s.flagZ s.flagN s.flagH (carry16 s.hl (s.rp p))).charge .addHl)

/-- `rp[p] <- rp[p] + 1` (R142, R143). -/
def incPair (p : Rp) (s : State) : Res := .next ((s.setRp p (s.rp p + 1)).charge .incDecPair)

/-- `rp[p] <- rp[p] - 1` (R144, R145). -/
def decPair (p : Rp) (s : State) : Res := .next ((s.setRp p (s.rp p - 1)).charge .incDecPair)

/-- `SP <- SP + e`, Z = N = 0, H and C from the low-byte addition (R146). -/
def addSpOffset (e : Byte) (s : State) : Res :=
  .next (((s.setSp (s.spOffset e)).setFlags false false (spHalf s.sp e) (spCarry s.sp e)).charge .addSp)

/-- `INC BC` (R142). -/
def execIncBc (s : State) : Res := incPair .bc s

/-- `ADD HL,BC` (R140). -/
def execAddHlBc (s : State) : Res := addHlPair .bc s

/-- `DEC BC` (R144). -/
def execDecBc (s : State) : Res := decPair .bc s

/-- `INC DE` (R142). -/
def execIncDe (s : State) : Res := incPair .de s

/-- `ADD HL,DE` (R140). -/
def execAddHlDe (s : State) : Res := addHlPair .de s

/-- `DEC DE` (R144). -/
def execDecDe (s : State) : Res := decPair .de s

/-- `INC HL` (R142). -/
def execIncHl (s : State) : Res := incPair .hl s

/-- `ADD HL,HL` (R140). -/
def execAddHlHl (s : State) : Res := addHlPair .hl s

/-- `DEC HL` (R144). -/
def execDecHl (s : State) : Res := decPair .hl s

/-- `INC SP` (R143). -/
def execIncSp (s : State) : Res := incPair .sp s

/-- `ADD HL,SP` (R141). -/
def execAddHlSp (s : State) : Res := addHlPair .sp s

/-- `DEC SP` (R145). -/
def execDecSp (s : State) : Res := decPair .sp s

/-- `ADD SP,e` (R146). -/
def execAddSpE (e : Byte) (s : State) : Res := addSpOffset e s

end Sys2Proof.Machine
end

