-- ==== Sys2Proof/Machine/Alu8.lean ====
section
/-! DEFINITION. The eight accumulator operations in their three operand forms (spec/41_alu8.md R100 to R124). -/

namespace Sys2Proof.Machine

/-- Form r: the source is a register. -/
def aluReg (op : AluOp) (src : R8) (s : State) : Res := .next ((s.aluWith op (s.r8 src)).charge .aluReg)

/-- Form (HL): the source is the byte at HL. -/
def aluAtHl (op : AluOp) (s : State) : Res :=
  s.withByteAt s.hl fun v s' => (s'.aluWith op v).charge .aluMem

/-- Form n: the source is the operand byte. -/
def aluImm (op : AluOp) (n : Byte) (s : State) : Res := .next ((s.aluWith op n).charge .aluImm)

/-- `ADD A,B` (R101). -/
def execAddAB (s : State) : Res := aluReg .add .b s

/-- `ADD A,C` (R101). -/
def execAddAC (s : State) : Res := aluReg .add .c s

/-- `ADD A,D` (R101). -/
def execAddAD (s : State) : Res := aluReg .add .d s

/-- `ADD A,E` (R101). -/
def execAddAE (s : State) : Res := aluReg .add .e s

/-- `ADD A,H` (R101). -/
def execAddAH (s : State) : Res := aluReg .add .h s

/-- `ADD A,L` (R101). -/
def execAddAL (s : State) : Res := aluReg .add .l s

/-- `ADD A,(HL)` (R102). -/
def execAddAAtHl (s : State) : Res := aluAtHl .add s

/-- `ADD A,A` (R101). -/
def execAddAA (s : State) : Res := aluReg .add .a s

/-- `ADC A,B` (R104). -/
def execAdcAB (s : State) : Res := aluReg .adc .b s

/-- `ADC A,C` (R104). -/
def execAdcAC (s : State) : Res := aluReg .adc .c s

/-- `ADC A,D` (R104). -/
def execAdcAD (s : State) : Res := aluReg .adc .d s

/-- `ADC A,E` (R104). -/
def execAdcAE (s : State) : Res := aluReg .adc .e s

/-- `ADC A,H` (R104). -/
def execAdcAH (s : State) : Res := aluReg .adc .h s

/-- `ADC A,L` (R104). -/
def execAdcAL (s : State) : Res := aluReg .adc .l s

/-- `ADC A,(HL)` (R105). -/
def execAdcAAtHl (s : State) : Res := aluAtHl .adc s

/-- `ADC A,A` (R104). -/
def execAdcAA (s : State) : Res := aluReg .adc .a s

/-- `SUB B` (R107). -/
def execSubB (s : State) : Res := aluReg .sub .b s

/-- `SUB C` (R107). -/
def execSubC (s : State) : Res := aluReg .sub .c s

/-- `SUB D` (R107). -/
def execSubD (s : State) : Res := aluReg .sub .d s

/-- `SUB E` (R107). -/
def execSubE (s : State) : Res := aluReg .sub .e s

/-- `SUB H` (R107). -/
def execSubH (s : State) : Res := aluReg .sub .h s

/-- `SUB L` (R107). -/
def execSubL (s : State) : Res := aluReg .sub .l s

/-- `SUB (HL)` (R108). -/
def execSubAtHl (s : State) : Res := aluAtHl .sub s

/-- `SUB A` (R107). -/
def execSubA (s : State) : Res := aluReg .sub .a s

/-- `SBC A,B` (R110). -/
def execSbcAB (s : State) : Res := aluReg .sbc .b s

/-- `SBC A,C` (R110). -/
def execSbcAC (s : State) : Res := aluReg .sbc .c s

/-- `SBC A,D` (R110). -/
def execSbcAD (s : State) : Res := aluReg .sbc .d s

/-- `SBC A,E` (R110). -/
def execSbcAE (s : State) : Res := aluReg .sbc .e s

/-- `SBC A,H` (R110). -/
def execSbcAH (s : State) : Res := aluReg .sbc .h s

/-- `SBC A,L` (R110). -/
def execSbcAL (s : State) : Res := aluReg .sbc .l s

/-- `SBC A,(HL)` (R111). -/
def execSbcAAtHl (s : State) : Res := aluAtHl .sbc s

/-- `SBC A,A` (R110). -/
def execSbcAA (s : State) : Res := aluReg .sbc .a s

/-- `AND B` (R113). -/
def execAndB (s : State) : Res := aluReg .and .b s

/-- `AND C` (R113). -/
def execAndC (s : State) : Res := aluReg .and .c s

/-- `AND D` (R113). -/
def execAndD (s : State) : Res := aluReg .and .d s

/-- `AND E` (R113). -/
def execAndE (s : State) : Res := aluReg .and .e s

/-- `AND H` (R113). -/
def execAndH (s : State) : Res := aluReg .and .h s

/-- `AND L` (R113). -/
def execAndL (s : State) : Res := aluReg .and .l s

/-- `AND (HL)` (R114). -/
def execAndAtHl (s : State) : Res := aluAtHl .and s

/-- `AND A` (R113). -/
def execAndA (s : State) : Res := aluReg .and .a s

/-- `XOR B` (R116). -/
def execXorB (s : State) : Res := aluReg .xor .b s

/-- `XOR C` (R116). -/
def execXorC (s : State) : Res := aluReg .xor .c s

/-- `XOR D` (R116). -/
def execXorD (s : State) : Res := aluReg .xor .d s

/-- `XOR E` (R116). -/
def execXorE (s : State) : Res := aluReg .xor .e s

/-- `XOR H` (R116). -/
def execXorH (s : State) : Res := aluReg .xor .h s

/-- `XOR L` (R116). -/
def execXorL (s : State) : Res := aluReg .xor .l s

/-- `XOR (HL)` (R117). -/
def execXorAtHl (s : State) : Res := aluAtHl .xor s

/-- `XOR A` (R116). -/
def execXorA (s : State) : Res := aluReg .xor .a s

/-- `OR B` (R119). -/
def execOrB (s : State) : Res := aluReg .or .b s

/-- `OR C` (R119). -/
def execOrC (s : State) : Res := aluReg .or .c s

/-- `OR D` (R119). -/
def execOrD (s : State) : Res := aluReg .or .d s

/-- `OR E` (R119). -/
def execOrE (s : State) : Res := aluReg .or .e s

/-- `OR H` (R119). -/
def execOrH (s : State) : Res := aluReg .or .h s

/-- `OR L` (R119). -/
def execOrL (s : State) : Res := aluReg .or .l s

/-- `OR (HL)` (R120). -/
def execOrAtHl (s : State) : Res := aluAtHl .or s

/-- `OR A` (R119). -/
def execOrA (s : State) : Res := aluReg .or .a s

/-- `CP B` (R122). -/
def execCpB (s : State) : Res := aluReg .cp .b s

/-- `CP C` (R122). -/
def execCpC (s : State) : Res := aluReg .cp .c s

/-- `CP D` (R122). -/
def execCpD (s : State) : Res := aluReg .cp .d s

/-- `CP E` (R122). -/
def execCpE (s : State) : Res := aluReg .cp .e s

/-- `CP H` (R122). -/
def execCpH (s : State) : Res := aluReg .cp .h s

/-- `CP L` (R122). -/
def execCpL (s : State) : Res := aluReg .cp .l s

/-- `CP (HL)` (R123). -/
def execCpAtHl (s : State) : Res := aluAtHl .cp s

/-- `CP A` (R122). -/
def execCpA (s : State) : Res := aluReg .cp .a s

/-- `ADD A,n` (R103). -/
def execAddAN (n : Byte) (s : State) : Res := aluImm .add n s

/-- `ADC A,n` (R106). -/
def execAdcAN (n : Byte) (s : State) : Res := aluImm .adc n s

/-- `SUB n` (R109). -/
def execSubN (n : Byte) (s : State) : Res := aluImm .sub n s

/-- `SBC A,n` (R112). -/
def execSbcAN (n : Byte) (s : State) : Res := aluImm .sbc n s

/-- `AND n` (R115). -/
def execAndN (n : Byte) (s : State) : Res := aluImm .and n s

/-- `XOR n` (R118). -/
def execXorN (n : Byte) (s : State) : Res := aluImm .xor n s

/-- `OR n` (R121). -/
def execOrN (n : Byte) (s : State) : Res := aluImm .or n s

/-- `CP n` (R124). -/
def execCpN (n : Byte) (s : State) : Res := aluImm .cp n s

end Sys2Proof.Machine
end

