-- ==== Sys2Proof/Machine/CallRet.lean ====
section
/-! DEFINITION. Calls, returns and restarts (spec/45_control_flow.md R227 to R232). No flag changes. -/

namespace Sys2Proof.Machine

/-- `Push16(PC); PC <- target`: the return address is the PC past the instruction. -/
def callTo (target : Word) (row : CostRow) (s : State) : Res :=
  orFault (s.push16 s.pc) fun s' => .next ((s'.setPc target).charge row)

/-- `PC <- Pop16()`. -/
def returnWith (row : CostRow) (k : State → State) (s : State) : Res :=
  orFault s.pop16 fun popped => .next ((k (popped.2.setPc popped.1)).charge row)

/-- `CALL nn` (R227). -/
def callAbs (nn : Word) (s : State) : Res := callTo nn .call s

/-- `CALL cc,nn`: not taken, the stack is not touched (R228). -/
def callAbsIf (cc : Cond) (nn : Word) (s : State) : Res :=
  if s.cond cc then callTo nn (.callCond true) s else .next (s.charge (.callCond false))

/-- `RET` (R229). -/
def returnPop (s : State) : Res := returnWith .ret id s

/-- `RET cc`: not taken, the stack is not touched (R230). -/
def returnIf (cc : Cond) (s : State) : Res :=
  if s.cond cc then returnWith (.retCond true) id s else .next (s.charge (.retCond false))

/-- `RETI`: IME is set as well (R231). -/
def returnEnable (s : State) : Res := returnWith .reti (fun s' => { s' with ime := true }) s

/-- The restart vector `8 * y` (R232). -/
def restartVector (y : Fin 8) : Word := BitVec.ofNat 16 (8 * y.val)

/-- `RST t` (R232). -/
def restart (y : Fin 8) (s : State) : Res := callTo (restartVector y) .rst s

/-- `RET NZ` (R230). -/
def execRetNz (s : State) : Res := returnIf .nz s

/-- `CALL NZ,nn` (R228). -/
def execCallNzNn (nn : Word) (s : State) : Res := callAbsIf .nz nn s

/-- `RST 00H` (R232). -/
def execRst00 (s : State) : Res := restart 0 s

/-- `RET Z` (R230). -/
def execRetZ (s : State) : Res := returnIf .z s

/-- `RET` (R229). -/
def execRet (s : State) : Res := returnPop s

/-- `CALL Z,nn` (R228). -/
def execCallZNn (nn : Word) (s : State) : Res := callAbsIf .z nn s

/-- `CALL nn` (R227). -/
def execCallNn (nn : Word) (s : State) : Res := callAbs nn s

/-- `RST 08H` (R232). -/
def execRst08 (s : State) : Res := restart 1 s

/-- `RET NC` (R230). -/
def execRetNc (s : State) : Res := returnIf .nc s

/-- `CALL NC,nn` (R228). -/
def execCallNcNn (nn : Word) (s : State) : Res := callAbsIf .nc nn s

/-- `RST 10H` (R232). -/
def execRst10 (s : State) : Res := restart 2 s

/-- `RET C` (R230). -/
def execRetC (s : State) : Res := returnIf .c s

/-- `RETI` (R231). -/
def execReti (s : State) : Res := returnEnable s

/-- `CALL C,nn` (R228). -/
def execCallCNn (nn : Word) (s : State) : Res := callAbsIf .c nn s

/-- `RST 18H` (R232). -/
def execRst18 (s : State) : Res := restart 3 s

/-- `RST 20H` (R232). -/
def execRst20 (s : State) : Res := restart 4 s

/-- `RST 28H` (R232). -/
def execRst28 (s : State) : Res := restart 5 s

/-- `RST 30H` (R232). -/
def execRst30 (s : State) : Res := restart 6 s

/-- `RST 38H` (R232). -/
def execRst38 (s : State) : Res := restart 7 s

end Sys2Proof.Machine
end

