-- ==== Sys2Proof/Machine/CbBit.lean ====
section
/-! DEFINITION. BIT (spec/43_rotate_shift_bit.md R170, R171). The operand is only read. -/

namespace Sys2Proof.Machine

/-- `BIT b,r` (R170). -/
def bitReg (b : Fin 8) (x : R8) (s : State) : Res := .next ((s.setBitFlags b (s.r8 x)).charge .bitReg)

/-- `BIT b,(HL)` (R171). -/
def bitAtHl (b : Fin 8) (s : State) : Res :=
  s.withByteAt s.hl fun v s' => (s'.setBitFlags b v).charge .bitMem

/-- `BIT 0,B` (R170). -/
def execBit0B (s : State) : Res := bitReg 0 .b s

/-- `BIT 0,C` (R170). -/
def execBit0C (s : State) : Res := bitReg 0 .c s

/-- `BIT 0,D` (R170). -/
def execBit0D (s : State) : Res := bitReg 0 .d s

/-- `BIT 0,E` (R170). -/
def execBit0E (s : State) : Res := bitReg 0 .e s

/-- `BIT 0,H` (R170). -/
def execBit0H (s : State) : Res := bitReg 0 .h s

/-- `BIT 0,L` (R170). -/
def execBit0L (s : State) : Res := bitReg 0 .l s

/-- `BIT 0,(HL)` (R171). -/
def execBit0AtHl (s : State) : Res := bitAtHl 0 s

/-- `BIT 0,A` (R170). -/
def execBit0A (s : State) : Res := bitReg 0 .a s

/-- `BIT 1,B` (R170). -/
def execBit1B (s : State) : Res := bitReg 1 .b s

/-- `BIT 1,C` (R170). -/
def execBit1C (s : State) : Res := bitReg 1 .c s

/-- `BIT 1,D` (R170). -/
def execBit1D (s : State) : Res := bitReg 1 .d s

/-- `BIT 1,E` (R170). -/
def execBit1E (s : State) : Res := bitReg 1 .e s

/-- `BIT 1,H` (R170). -/
def execBit1H (s : State) : Res := bitReg 1 .h s

/-- `BIT 1,L` (R170). -/
def execBit1L (s : State) : Res := bitReg 1 .l s

/-- `BIT 1,(HL)` (R171). -/
def execBit1AtHl (s : State) : Res := bitAtHl 1 s

/-- `BIT 1,A` (R170). -/
def execBit1A (s : State) : Res := bitReg 1 .a s

/-- `BIT 2,B` (R170). -/
def execBit2B (s : State) : Res := bitReg 2 .b s

/-- `BIT 2,C` (R170). -/
def execBit2C (s : State) : Res := bitReg 2 .c s

/-- `BIT 2,D` (R170). -/
def execBit2D (s : State) : Res := bitReg 2 .d s

/-- `BIT 2,E` (R170). -/
def execBit2E (s : State) : Res := bitReg 2 .e s

/-- `BIT 2,H` (R170). -/
def execBit2H (s : State) : Res := bitReg 2 .h s

/-- `BIT 2,L` (R170). -/
def execBit2L (s : State) : Res := bitReg 2 .l s

/-- `BIT 2,(HL)` (R171). -/
def execBit2AtHl (s : State) : Res := bitAtHl 2 s

/-- `BIT 2,A` (R170). -/
def execBit2A (s : State) : Res := bitReg 2 .a s

/-- `BIT 3,B` (R170). -/
def execBit3B (s : State) : Res := bitReg 3 .b s

/-- `BIT 3,C` (R170). -/
def execBit3C (s : State) : Res := bitReg 3 .c s

/-- `BIT 3,D` (R170). -/
def execBit3D (s : State) : Res := bitReg 3 .d s

/-- `BIT 3,E` (R170). -/
def execBit3E (s : State) : Res := bitReg 3 .e s

/-- `BIT 3,H` (R170). -/
def execBit3H (s : State) : Res := bitReg 3 .h s

/-- `BIT 3,L` (R170). -/
def execBit3L (s : State) : Res := bitReg 3 .l s

/-- `BIT 3,(HL)` (R171). -/
def execBit3AtHl (s : State) : Res := bitAtHl 3 s

/-- `BIT 3,A` (R170). -/
def execBit3A (s : State) : Res := bitReg 3 .a s

/-- `BIT 4,B` (R170). -/
def execBit4B (s : State) : Res := bitReg 4 .b s

/-- `BIT 4,C` (R170). -/
def execBit4C (s : State) : Res := bitReg 4 .c s

/-- `BIT 4,D` (R170). -/
def execBit4D (s : State) : Res := bitReg 4 .d s

/-- `BIT 4,E` (R170). -/
def execBit4E (s : State) : Res := bitReg 4 .e s

/-- `BIT 4,H` (R170). -/
def execBit4H (s : State) : Res := bitReg 4 .h s

/-- `BIT 4,L` (R170). -/
def execBit4L (s : State) : Res := bitReg 4 .l s

/-- `BIT 4,(HL)` (R171). -/
def execBit4AtHl (s : State) : Res := bitAtHl 4 s

/-- `BIT 4,A` (R170). -/
def execBit4A (s : State) : Res := bitReg 4 .a s

/-- `BIT 5,B` (R170). -/
def execBit5B (s : State) : Res := bitReg 5 .b s

/-- `BIT 5,C` (R170). -/
def execBit5C (s : State) : Res := bitReg 5 .c s

/-- `BIT 5,D` (R170). -/
def execBit5D (s : State) : Res := bitReg 5 .d s

/-- `BIT 5,E` (R170). -/
def execBit5E (s : State) : Res := bitReg 5 .e s

/-- `BIT 5,H` (R170). -/
def execBit5H (s : State) : Res := bitReg 5 .h s

/-- `BIT 5,L` (R170). -/
def execBit5L (s : State) : Res := bitReg 5 .l s

/-- `BIT 5,(HL)` (R171). -/
def execBit5AtHl (s : State) : Res := bitAtHl 5 s

/-- `BIT 5,A` (R170). -/
def execBit5A (s : State) : Res := bitReg 5 .a s

/-- `BIT 6,B` (R170). -/
def execBit6B (s : State) : Res := bitReg 6 .b s

/-- `BIT 6,C` (R170). -/
def execBit6C (s : State) : Res := bitReg 6 .c s

/-- `BIT 6,D` (R170). -/
def execBit6D (s : State) : Res := bitReg 6 .d s

/-- `BIT 6,E` (R170). -/
def execBit6E (s : State) : Res := bitReg 6 .e s

/-- `BIT 6,H` (R170). -/
def execBit6H (s : State) : Res := bitReg 6 .h s

/-- `BIT 6,L` (R170). -/
def execBit6L (s : State) : Res := bitReg 6 .l s

/-- `BIT 6,(HL)` (R171). -/
def execBit6AtHl (s : State) : Res := bitAtHl 6 s

/-- `BIT 6,A` (R170). -/
def execBit6A (s : State) : Res := bitReg 6 .a s

/-- `BIT 7,B` (R170). -/
def execBit7B (s : State) : Res := bitReg 7 .b s

/-- `BIT 7,C` (R170). -/
def execBit7C (s : State) : Res := bitReg 7 .c s

/-- `BIT 7,D` (R170). -/
def execBit7D (s : State) : Res := bitReg 7 .d s

/-- `BIT 7,E` (R170). -/
def execBit7E (s : State) : Res := bitReg 7 .e s

/-- `BIT 7,H` (R170). -/
def execBit7H (s : State) : Res := bitReg 7 .h s

/-- `BIT 7,L` (R170). -/
def execBit7L (s : State) : Res := bitReg 7 .l s

/-- `BIT 7,(HL)` (R171). -/
def execBit7AtHl (s : State) : Res := bitAtHl 7 s

/-- `BIT 7,A` (R170). -/
def execBit7A (s : State) : Res := bitReg 7 .a s

end Sys2Proof.Machine
end

