-- ==== Sys2Proof/Machine/CbSlots.lean ====
section
/-! DEFINITION. The CB slots 0x80 to 0xFF under the parameter CB_RES_SET (spec/30_encoding.md R71). -/

namespace Sys2Proof.Machine

/-- What a CB slot of 0x80 to 0xFF does: its RES or SET when CB_RES_SET is `implemented`; by default the exception
IllegalOpcode with the address of the 0xCB byte, two before PC, and the second byte (R71, R84, R263). -/
def ifImplemented (opcode2 : Byte) (s : State) (effect : Res) : Res :=
  match s.cbResSet with
  | .implemented => effect
  | .illegal => .next (s.raiseIllegal (s.pc - 2) opcode2)

end Sys2Proof.Machine
end

