-- ==== Sys2Proof/Machine/CbRes.lean ====
section
/-! DEFINITION. RES (spec/43_rotate_shift_bit.md R172, R173): illegal unless CB_RES_SET = implemented. No flag changes. -/

namespace Sys2Proof.Machine

/-- `v & ~(1 << b)`. -/
def clearBit (b : Fin 8) (v : Byte) : Byte := v &&& ~~~(1#8 <<< b.val)

/-- `RES b,r` (R172). -/
def resReg (b : Fin 8) (x : R8) (s : State) : Res :=
  ifImplemented (opcodeOf 2 b.val x.code) s (.next ((s.setR8 x (clearBit b (s.r8 x))).charge .resSetReg))

/-- `RES b,(HL)` (R173). -/
def resAtHl (b : Fin 8) (s : State) : Res :=
  ifImplemented (opcodeOf 2 b.val 6) s
    (s.modifyByteAt s.hl (clearBit b) fun _ s' => s'.charge .resSetMem)

/-- `RES 0,B` (R172). -/
def execRes0B (s : State) : Res := resReg 0 .b s

/-- `RES 0,C` (R172). -/
def execRes0C (s : State) : Res := resReg 0 .c s

/-- `RES 0,D` (R172). -/
def execRes0D (s : State) : Res := resReg 0 .d s

/-- `RES 0,E` (R172). -/
def execRes0E (s : State) : Res := resReg 0 .e s

/-- `RES 0,H` (R172). -/
def execRes0H (s : State) : Res := resReg 0 .h s

/-- `RES 0,L` (R172). -/
def execRes0L (s : State) : Res := resReg 0 .l s

/-- `RES 0,(HL)` (R173). -/
def execRes0AtHl (s : State) : Res := resAtHl 0 s

/-- `RES 0,A` (R172). -/
def execRes0A (s : State) : Res := resReg 0 .a s

/-- `RES 1,B` (R172). -/
def execRes1B (s : State) : Res := resReg 1 .b s

/-- `RES 1,C` (R172). -/
def execRes1C (s : State) : Res := resReg 1 .c s

/-- `RES 1,D` (R172). -/
def execRes1D (s : State) : Res := resReg 1 .d s

/-- `RES 1,E` (R172). -/
def execRes1E (s : State) : Res := resReg 1 .e s

/-- `RES 1,H` (R172). -/
def execRes1H (s : State) : Res := resReg 1 .h s

/-- `RES 1,L` (R172). -/
def execRes1L (s : State) : Res := resReg 1 .l s

/-- `RES 1,(HL)` (R173). -/
def execRes1AtHl (s : State) : Res := resAtHl 1 s

/-- `RES 1,A` (R172). -/
def execRes1A (s : State) : Res := resReg 1 .a s

/-- `RES 2,B` (R172). -/
def execRes2B (s : State) : Res := resReg 2 .b s

/-- `RES 2,C` (R172). -/
def execRes2C (s : State) : Res := resReg 2 .c s

/-- `RES 2,D` (R172). -/
def execRes2D (s : State) : Res := resReg 2 .d s

/-- `RES 2,E` (R172). -/
def execRes2E (s : State) : Res := resReg 2 .e s

/-- `RES 2,H` (R172). -/
def execRes2H (s : State) : Res := resReg 2 .h s

/-- `RES 2,L` (R172). -/
def execRes2L (s : State) : Res := resReg 2 .l s

/-- `RES 2,(HL)` (R173). -/
def execRes2AtHl (s : State) : Res := resAtHl 2 s

/-- `RES 2,A` (R172). -/
def execRes2A (s : State) : Res := resReg 2 .a s

/-- `RES 3,B` (R172). -/
def execRes3B (s : State) : Res := resReg 3 .b s

/-- `RES 3,C` (R172). -/
def execRes3C (s : State) : Res := resReg 3 .c s

/-- `RES 3,D` (R172). -/
def execRes3D (s : State) : Res := resReg 3 .d s

/-- `RES 3,E` (R172). -/
def execRes3E (s : State) : Res := resReg 3 .e s

/-- `RES 3,H` (R172). -/
def execRes3H (s : State) : Res := resReg 3 .h s

/-- `RES 3,L` (R172). -/
def execRes3L (s : State) : Res := resReg 3 .l s

/-- `RES 3,(HL)` (R173). -/
def execRes3AtHl (s : State) : Res := resAtHl 3 s

/-- `RES 3,A` (R172). -/
def execRes3A (s : State) : Res := resReg 3 .a s

/-- `RES 4,B` (R172). -/
def execRes4B (s : State) : Res := resReg 4 .b s

/-- `RES 4,C` (R172). -/
def execRes4C (s : State) : Res := resReg 4 .c s

/-- `RES 4,D` (R172). -/
def execRes4D (s : State) : Res := resReg 4 .d s

/-- `RES 4,E` (R172). -/
def execRes4E (s : State) : Res := resReg 4 .e s

/-- `RES 4,H` (R172). -/
def execRes4H (s : State) : Res := resReg 4 .h s

/-- `RES 4,L` (R172). -/
def execRes4L (s : State) : Res := resReg 4 .l s

/-- `RES 4,(HL)` (R173). -/
def execRes4AtHl (s : State) : Res := resAtHl 4 s

/-- `RES 4,A` (R172). -/
def execRes4A (s : State) : Res := resReg 4 .a s

/-- `RES 5,B` (R172). -/
def execRes5B (s : State) : Res := resReg 5 .b s

/-- `RES 5,C` (R172). -/
def execRes5C (s : State) : Res := resReg 5 .c s

/-- `RES 5,D` (R172). -/
def execRes5D (s : State) : Res := resReg 5 .d s

/-- `RES 5,E` (R172). -/
def execRes5E (s : State) : Res := resReg 5 .e s

/-- `RES 5,H` (R172). -/
def execRes5H (s : State) : Res := resReg 5 .h s

/-- `RES 5,L` (R172). -/
def execRes5L (s : State) : Res := resReg 5 .l s

/-- `RES 5,(HL)` (R173). -/
def execRes5AtHl (s : State) : Res := resAtHl 5 s

/-- `RES 5,A` (R172). -/
def execRes5A (s : State) : Res := resReg 5 .a s

/-- `RES 6,B` (R172). -/
def execRes6B (s : State) : Res := resReg 6 .b s

/-- `RES 6,C` (R172). -/
def execRes6C (s : State) : Res := resReg 6 .c s

/-- `RES 6,D` (R172). -/
def execRes6D (s : State) : Res := resReg 6 .d s

/-- `RES 6,E` (R172). -/
def execRes6E (s : State) : Res := resReg 6 .e s

/-- `RES 6,H` (R172). -/
def execRes6H (s : State) : Res := resReg 6 .h s

/-- `RES 6,L` (R172). -/
def execRes6L (s : State) : Res := resReg 6 .l s

/-- `RES 6,(HL)` (R173). -/
def execRes6AtHl (s : State) : Res := resAtHl 6 s

/-- `RES 6,A` (R172). -/
def execRes6A (s : State) : Res := resReg 6 .a s

/-- `RES 7,B` (R172). -/
def execRes7B (s : State) : Res := resReg 7 .b s

/-- `RES 7,C` (R172). -/
def execRes7C (s : State) : Res := resReg 7 .c s

/-- `RES 7,D` (R172). -/
def execRes7D (s : State) : Res := resReg 7 .d s

/-- `RES 7,E` (R172). -/
def execRes7E (s : State) : Res := resReg 7 .e s

/-- `RES 7,H` (R172). -/
def execRes7H (s : State) : Res := resReg 7 .h s

/-- `RES 7,L` (R172). -/
def execRes7L (s : State) : Res := resReg 7 .l s

/-- `RES 7,(HL)` (R173). -/
def execRes7AtHl (s : State) : Res := resAtHl 7 s

/-- `RES 7,A` (R172). -/
def execRes7A (s : State) : Res := resReg 7 .a s

end Sys2Proof.Machine
end

