-- ==== Sys2Proof/Machine/CbSet.lean ====
section
/-! DEFINITION. SET (spec/43_rotate_shift_bit.md R174, R175): illegal unless CB_RES_SET = implemented. No flag changes. -/

namespace Sys2Proof.Machine

/-- `v | (1 << b)`. -/
def raiseBit (b : Fin 8) (v : Byte) : Byte := v ||| (1#8 <<< b.val)

/-- `SET b,r` (R174). -/
def setReg (b : Fin 8) (x : R8) (s : State) : Res :=
  ifImplemented (opcodeOf 3 b.val x.code) s (.next ((s.setR8 x (raiseBit b (s.r8 x))).charge .resSetReg))

/-- `SET b,(HL)` (R175). -/
def setAtHl (b : Fin 8) (s : State) : Res :=
  ifImplemented (opcodeOf 3 b.val 6) s
    (s.modifyByteAt s.hl (raiseBit b) fun _ s' => s'.charge .resSetMem)

/-- `SET 0,B` (R174). -/
def execSet0B (s : State) : Res := setReg 0 .b s

/-- `SET 0,C` (R174). -/
def execSet0C (s : State) : Res := setReg 0 .c s

/-- `SET 0,D` (R174). -/
def execSet0D (s : State) : Res := setReg 0 .d s

/-- `SET 0,E` (R174). -/
def execSet0E (s : State) : Res := setReg 0 .e s

/-- `SET 0,H` (R174). -/
def execSet0H (s : State) : Res := setReg 0 .h s

/-- `SET 0,L` (R174). -/
def execSet0L (s : State) : Res := setReg 0 .l s

/-- `SET 0,(HL)` (R175). -/
def execSet0AtHl (s : State) : Res := setAtHl 0 s

/-- `SET 0,A` (R174). -/
def execSet0A (s : State) : Res := setReg 0 .a s

/-- `SET 1,B` (R174). -/
def execSet1B (s : State) : Res := setReg 1 .b s

/-- `SET 1,C` (R174). -/
def execSet1C (s : State) : Res := setReg 1 .c s

/-- `SET 1,D` (R174). -/
def execSet1D (s : State) : Res := setReg 1 .d s

/-- `SET 1,E` (R174). -/
def execSet1E (s : State) : Res := setReg 1 .e s

/-- `SET 1,H` (R174). -/
def execSet1H (s : State) : Res := setReg 1 .h s

/-- `SET 1,L` (R174). -/
def execSet1L (s : State) : Res := setReg 1 .l s

/-- `SET 1,(HL)` (R175). -/
def execSet1AtHl (s : State) : Res := setAtHl 1 s

/-- `SET 1,A` (R174). -/
def execSet1A (s : State) : Res := setReg 1 .a s

/-- `SET 2,B` (R174). -/
def execSet2B (s : State) : Res := setReg 2 .b s

/-- `SET 2,C` (R174). -/
def execSet2C (s : State) : Res := setReg 2 .c s

/-- `SET 2,D` (R174). -/
def execSet2D (s : State) : Res := setReg 2 .d s

/-- `SET 2,E` (R174). -/
def execSet2E (s : State) : Res := setReg 2 .e s

/-- `SET 2,H` (R174). -/
def execSet2H (s : State) : Res := setReg 2 .h s

/-- `SET 2,L` (R174). -/
def execSet2L (s : State) : Res := setReg 2 .l s

/-- `SET 2,(HL)` (R175). -/
def execSet2AtHl (s : State) : Res := setAtHl 2 s

/-- `SET 2,A` (R174). -/
def execSet2A (s : State) : Res := setReg 2 .a s

/-- `SET 3,B` (R174). -/
def execSet3B (s : State) : Res := setReg 3 .b s

/-- `SET 3,C` (R174). -/
def execSet3C (s : State) : Res := setReg 3 .c s

/-- `SET 3,D` (R174). -/
def execSet3D (s : State) : Res := setReg 3 .d s

/-- `SET 3,E` (R174). -/
def execSet3E (s : State) : Res := setReg 3 .e s

/-- `SET 3,H` (R174). -/
def execSet3H (s : State) : Res := setReg 3 .h s

/-- `SET 3,L` (R174). -/
def execSet3L (s : State) : Res := setReg 3 .l s

/-- `SET 3,(HL)` (R175). -/
def execSet3AtHl (s : State) : Res := setAtHl 3 s

/-- `SET 3,A` (R174). -/
def execSet3A (s : State) : Res := setReg 3 .a s

/-- `SET 4,B` (R174). -/
def execSet4B (s : State) : Res := setReg 4 .b s

/-- `SET 4,C` (R174). -/
def execSet4C (s : State) : Res := setReg 4 .c s

/-- `SET 4,D` (R174). -/
def execSet4D (s : State) : Res := setReg 4 .d s

/-- `SET 4,E` (R174). -/
def execSet4E (s : State) : Res := setReg 4 .e s

/-- `SET 4,H` (R174). -/
def execSet4H (s : State) : Res := setReg 4 .h s

/-- `SET 4,L` (R174). -/
def execSet4L (s : State) : Res := setReg 4 .l s

/-- `SET 4,(HL)` (R175). -/
def execSet4AtHl (s : State) : Res := setAtHl 4 s

/-- `SET 4,A` (R174). -/
def execSet4A (s : State) : Res := setReg 4 .a s

/-- `SET 5,B` (R174). -/
def execSet5B (s : State) : Res := setReg 5 .b s

/-- `SET 5,C` (R174). -/
def execSet5C (s : State) : Res := setReg 5 .c s

/-- `SET 5,D` (R174). -/
def execSet5D (s : State) : Res := setReg 5 .d s

/-- `SET 5,E` (R174). -/
def execSet5E (s : State) : Res := setReg 5 .e s

/-- `SET 5,H` (R174). -/
def execSet5H (s : State) : Res := setReg 5 .h s

/-- `SET 5,L` (R174). -/
def execSet5L (s : State) : Res := setReg 5 .l s

/-- `SET 5,(HL)` (R175). -/
def execSet5AtHl (s : State) : Res := setAtHl 5 s

/-- `SET 5,A` (R174). -/
def execSet5A (s : State) : Res := setReg 5 .a s

/-- `SET 6,B` (R174). -/
def execSet6B (s : State) : Res := setReg 6 .b s

/-- `SET 6,C` (R174). -/
def execSet6C (s : State) : Res := setReg 6 .c s

/-- `SET 6,D` (R174). -/
def execSet6D (s : State) : Res := setReg 6 .d s

/-- `SET 6,E` (R174). -/
def execSet6E (s : State) : Res := setReg 6 .e s

/-- `SET 6,H` (R174). -/
def execSet6H (s : State) : Res := setReg 6 .h s

/-- `SET 6,L` (R174). -/
def execSet6L (s : State) : Res := setReg 6 .l s

/-- `SET 6,(HL)` (R175). -/
def execSet6AtHl (s : State) : Res := setAtHl 6 s

/-- `SET 6,A` (R174). -/
def execSet6A (s : State) : Res := setReg 6 .a s

/-- `SET 7,B` (R174). -/
def execSet7B (s : State) : Res := setReg 7 .b s

/-- `SET 7,C` (R174). -/
def execSet7C (s : State) : Res := setReg 7 .c s

/-- `SET 7,D` (R174). -/
def execSet7D (s : State) : Res := setReg 7 .d s

/-- `SET 7,E` (R174). -/
def execSet7E (s : State) : Res := setReg 7 .e s

/-- `SET 7,H` (R174). -/
def execSet7H (s : State) : Res := setReg 7 .h s

/-- `SET 7,L` (R174). -/
def execSet7L (s : State) : Res := setReg 7 .l s

/-- `SET 7,(HL)` (R175). -/
def execSet7AtHl (s : State) : Res := setAtHl 7 s

/-- `SET 7,A` (R174). -/
def execSet7A (s : State) : Res := setReg 7 .a s

end Sys2Proof.Machine
end

