-- ==== Sys2Proof/Machine/CbShift.lean ====
section
/-! DEFINITION. The CB rotates, shifts and SWAP (spec/43_rotate_shift_bit.md R154 to R169). -/

namespace Sys2Proof.Machine

/-- The common register form. -/
def shiftReg (op : ShiftOp) (x : R8) (s : State) : Res :=
  let r := shift op (s.r8 x) s.flagC
  .next (((s.setR8 x r.1).setShiftFlags r).charge .shiftReg)

/-- The common (HL) form: one read, then one write at HL. -/
def shiftAtHl (op : ShiftOp) (s : State) : Res :=
  s.modifyByteAt s.hl (fun v => (shift op v s.flagC).1) fun v s' =>
    (s'.setShiftFlags (shift op v s.flagC)).charge .shiftMem

/-- `RLC B` (R154). -/
def execRlcB (s : State) : Res := shiftReg .rlc .b s

/-- `RLC C` (R154). -/
def execRlcC (s : State) : Res := shiftReg .rlc .c s

/-- `RLC D` (R154). -/
def execRlcD (s : State) : Res := shiftReg .rlc .d s

/-- `RLC E` (R154). -/
def execRlcE (s : State) : Res := shiftReg .rlc .e s

/-- `RLC H` (R154). -/
def execRlcH (s : State) : Res := shiftReg .rlc .h s

/-- `RLC L` (R154). -/
def execRlcL (s : State) : Res := shiftReg .rlc .l s

/-- `RLC (HL)` (R155). -/
def execRlcAtHl (s : State) : Res := shiftAtHl .rlc s

/-- `RLC A` (R154). -/
def execRlcA (s : State) : Res := shiftReg .rlc .a s

/-- `RRC B` (R156). -/
def execRrcB (s : State) : Res := shiftReg .rrc .b s

/-- `RRC C` (R156). -/
def execRrcC (s : State) : Res := shiftReg .rrc .c s

/-- `RRC D` (R156). -/
def execRrcD (s : State) : Res := shiftReg .rrc .d s

/-- `RRC E` (R156). -/
def execRrcE (s : State) : Res := shiftReg .rrc .e s

/-- `RRC H` (R156). -/
def execRrcH (s : State) : Res := shiftReg .rrc .h s

/-- `RRC L` (R156). -/
def execRrcL (s : State) : Res := shiftReg .rrc .l s

/-- `RRC (HL)` (R157). -/
def execRrcAtHl (s : State) : Res := shiftAtHl .rrc s

/-- `RRC A` (R156). -/
def execRrcA (s : State) : Res := shiftReg .rrc .a s

/-- `RL B` (R158). -/
def execRlB (s : State) : Res := shiftReg .rl .b s

/-- `RL C` (R158). -/
def execRlC (s : State) : Res := shiftReg .rl .c s

/-- `RL D` (R158). -/
def execRlD (s : State) : Res := shiftReg .rl .d s

/-- `RL E` (R158). -/
def execRlE (s : State) : Res := shiftReg .rl .e s

/-- `RL H` (R158). -/
def execRlH (s : State) : Res := shiftReg .rl .h s

/-- `RL L` (R158). -/
def execRlL (s : State) : Res := shiftReg .rl .l s

/-- `RL (HL)` (R159). -/
def execRlAtHl (s : State) : Res := shiftAtHl .rl s

/-- `RL A` (R158). -/
def execRlA (s : State) : Res := shiftReg .rl .a s

/-- `RR B` (R160). -/
def execRrB (s : State) : Res := shiftReg .rr .b s

/-- `RR C` (R160). -/
def execRrC (s : State) : Res := shiftReg .rr .c s

/-- `RR D` (R160). -/
def execRrD (s : State) : Res := shiftReg .rr .d s

/-- `RR E` (R160). -/
def execRrE (s : State) : Res := shiftReg .rr .e s

/-- `RR H` (R160). -/
def execRrH (s : State) : Res := shiftReg .rr .h s

/-- `RR L` (R160). -/
def execRrL (s : State) : Res := shiftReg .rr .l s

/-- `RR (HL)` (R161). -/
def execRrAtHl (s : State) : Res := shiftAtHl .rr s

/-- `RR A` (R160). -/
def execRrA (s : State) : Res := shiftReg .rr .a s

/-- `SLA B` (R162). -/
def execSlaB (s : State) : Res := shiftReg .sla .b s

/-- `SLA C` (R162). -/
def execSlaC (s : State) : Res := shiftReg .sla .c s

/-- `SLA D` (R162). -/
def execSlaD (s : State) : Res := shiftReg .sla .d s

/-- `SLA E` (R162). -/
def execSlaE (s : State) : Res := shiftReg .sla .e s

/-- `SLA H` (R162). -/
def execSlaH (s : State) : Res := shiftReg .sla .h s

/-- `SLA L` (R162). -/
def execSlaL (s : State) : Res := shiftReg .sla .l s

/-- `SLA (HL)` (R163). -/
def execSlaAtHl (s : State) : Res := shiftAtHl .sla s

/-- `SLA A` (R162). -/
def execSlaA (s : State) : Res := shiftReg .sla .a s

/-- `SRA B` (R164). -/
def execSraB (s : State) : Res := shiftReg .sra .b s

/-- `SRA C` (R164). -/
def execSraC (s : State) : Res := shiftReg .sra .c s

/-- `SRA D` (R164). -/
def execSraD (s : State) : Res := shiftReg .sra .d s

/-- `SRA E` (R164). -/
def execSraE (s : State) : Res := shiftReg .sra .e s

/-- `SRA H` (R164). -/
def execSraH (s : State) : Res := shiftReg .sra .h s

/-- `SRA L` (R164). -/
def execSraL (s : State) : Res := shiftReg .sra .l s

/-- `SRA (HL)` (R165). -/
def execSraAtHl (s : State) : Res := shiftAtHl .sra s

/-- `SRA A` (R164). -/
def execSraA (s : State) : Res := shiftReg .sra .a s

/-- `SWAP B` (R166). -/
def execSwapB (s : State) : Res := shiftReg .swap .b s

/-- `SWAP C` (R166). -/
def execSwapC (s : State) : Res := shiftReg .swap .c s

/-- `SWAP D` (R166). -/
def execSwapD (s : State) : Res := shiftReg .swap .d s

/-- `SWAP E` (R166). -/
def execSwapE (s : State) : Res := shiftReg .swap .e s

/-- `SWAP H` (R166). -/
def execSwapH (s : State) : Res := shiftReg .swap .h s

/-- `SWAP L` (R166). -/
def execSwapL (s : State) : Res := shiftReg .swap .l s

/-- `SWAP (HL)` (R167). -/
def execSwapAtHl (s : State) : Res := shiftAtHl .swap s

/-- `SWAP A` (R166). -/
def execSwapA (s : State) : Res := shiftReg .swap .a s

/-- `SRL B` (R168). -/
def execSrlB (s : State) : Res := shiftReg .srl .b s

/-- `SRL C` (R168). -/
def execSrlC (s : State) : Res := shiftReg .srl .c s

/-- `SRL D` (R168). -/
def execSrlD (s : State) : Res := shiftReg .srl .d s

/-- `SRL E` (R168). -/
def execSrlE (s : State) : Res := shiftReg .srl .e s

/-- `SRL H` (R168). -/
def execSrlH (s : State) : Res := shiftReg .srl .h s

/-- `SRL L` (R168). -/
def execSrlL (s : State) : Res := shiftReg .srl .l s

/-- `SRL (HL)` (R169). -/
def execSrlAtHl (s : State) : Res := shiftAtHl .srl s

/-- `SRL A` (R168). -/
def execSrlA (s : State) : Res := shiftReg .srl .a s

end Sys2Proof.Machine
end

