-- ==== Sys2Proof/Machine/CbPrefix.lean ====
section
/-! DEFINITION. PREFIX CB (spec/40_dispatch.md R83): the second byte selects, by its fields x, y, z, an operation on
the operand of code z (spec/30_encoding.md R69). -/

namespace Sys2Proof.Machine

/-- Execute the CB slot of `opcode2`, PC being past it. -/
def cbDispatch (opcode2 : Byte) (s : State) : Res :=
  let y := fieldY opcode2
  match fieldX opcode2, operandOfCode (fieldZ opcode2) with
  | 0, .reg x => shiftReg (shiftOfCode y) x s
  | 0, .atHl => shiftAtHl (shiftOfCode y) s
  | 1, .reg x => bitReg (Fin.ofNat 8 y) x s
  | 1, .atHl => bitAtHl (Fin.ofNat 8 y) s
  | 2, .reg x => resReg (Fin.ofNat 8 y) x s
  | 2, .atHl => resAtHl (Fin.ofNat 8 y) s
  | _, .reg x => setReg (Fin.ofNat 8 y) x s
  | _, .atHl => setAtHl (Fin.ofNat 8 y) s

/-- `PREFIX CB` (R83). -/
def execPrefixCb (opcode2 : Byte) (s : State) : Res := cbDispatch opcode2 s

end Sys2Proof.Machine
end

