-- ==== Sys2Proof/Machine/Control.lean ====
section
/-! DEFINITION. Machine control (spec/45_control_flow.md R233 to R236). No flag changes. -/

namespace Sys2Proof.Machine

/-- `NOP`: only the cost (R233). -/
def noOperation (s : State) : Res := .next (s.charge .nop)

/-- `HALT`: the halt bit is set; later steps are held (R234, R85). -/
def haltCore (s : State) : Res := .next (({ s with halt := true }).charge .halt)

/-- `DI` and `EI`: IME cleared or set, in the same step (R235, R236). -/
def setIme (v : Bool) (s : State) : Res := .next (({ s with ime := v }).charge .diEi)

/-- `NOP` (R233). -/
def execNop (s : State) : Res := noOperation s

/-- `HALT` (R234). -/
def execHalt (s : State) : Res := haltCore s

/-- `DI` (R235). -/
def execDi (s : State) : Res := setIme false s

/-- `EI` (R236). -/
def execEi (s : State) : Res := setIme true s

end Sys2Proof.Machine
end

