-- ==== Sys2Proof/Machine/Illegal.lean ====
section
/-! DEFINITION. The eleven illegal primary slots (spec/30_encoding.md R70): each takes the exception IllegalOpcode
(spec/40_dispatch.md R84). PC is one past the slot, so its address is PC - 1 (R263). -/

namespace Sys2Proof.Machine

/-- `raise IllegalOpcode(start, byte)` from a one-byte slot. -/
def illegalPrimary (byte : Byte) (s : State) : Res := .next (s.raiseIllegal (s.pc - 1) byte)

/-- `ILLEGAL (0xD3)` (R84). -/
def execIllegalD3 (s : State) : Res := illegalPrimary 0xD3 s

/-- `ILLEGAL (0xDB)` (R84). -/
def execIllegalDB (s : State) : Res := illegalPrimary 0xDB s

/-- `ILLEGAL (0xDD)` (R84). -/
def execIllegalDD (s : State) : Res := illegalPrimary 0xDD s

/-- `ILLEGAL (0xE3)` (R84). -/
def execIllegalE3 (s : State) : Res := illegalPrimary 0xE3 s

/-- `ILLEGAL (0xE4)` (R84). -/
def execIllegalE4 (s : State) : Res := illegalPrimary 0xE4 s

/-- `ILLEGAL (0xEB)` (R84). -/
def execIllegalEB (s : State) : Res := illegalPrimary 0xEB s

/-- `ILLEGAL (0xEC)` (R84). -/
def execIllegalEC (s : State) : Res := illegalPrimary 0xEC s

/-- `ILLEGAL (0xED)` (R84). -/
def execIllegalED (s : State) : Res := illegalPrimary 0xED s

/-- `ILLEGAL (0xF4)` (R84). -/
def execIllegalF4 (s : State) : Res := illegalPrimary 0xF4 s

/-- `ILLEGAL (0xFC)` (R84). -/
def execIllegalFC (s : State) : Res := illegalPrimary 0xFC s

/-- `ILLEGAL (0xFD)` (R84). -/
def execIllegalFD (s : State) : Res := illegalPrimary 0xFD s

end Sys2Proof.Machine
end

