-- ==== Sys2Proof/Machine/IncDec8.lean ====
section
/-! DEFINITION. 8-bit increment and decrement (spec/41_alu8.md R125 to R128). Carry is kept. -/

namespace Sys2Proof.Machine

/-- The four flags of a result. -/
def State.setResultFlags (s : State) (r : Result8) : State := s.setFlags r.z r.n r.h r.c

/-- `INC r` (R125). -/
def incReg (x : R8) (s : State) : Res :=
  let r := incByte (s.r8 x) s.flagC
  .next (((s.setR8 x r.res).setResultFlags r).charge .incDecReg)

/-- `DEC r` (R127). -/
def decReg (x : R8) (s : State) : Res :=
  let r := decByte (s.r8 x) s.flagC
  .next (((s.setR8 x r.res).setResultFlags r).charge .incDecReg)

/-- `INC (HL)`: one read, then one write at HL (R126). -/
def incMem (s : State) : Res :=
  s.modifyByteAt s.hl (fun v => (incByte v s.flagC).res) fun v s' =>
    (s'.setResultFlags (incByte v s.flagC)).charge .incDecMem

/-- `DEC (HL)`: one read, then one write at HL (R128). -/
def decMem (s : State) : Res :=
  s.modifyByteAt s.hl (fun v => (decByte v s.flagC).res) fun v s' =>
    (s'.setResultFlags (decByte v s.flagC)).charge .incDecMem

/-- `INC B` (R125). -/
def execIncB (s : State) : Res := incReg .b s

/-- `DEC B` (R127). -/
def execDecB (s : State) : Res := decReg .b s

/-- `INC C` (R125). -/
def execIncC (s : State) : Res := incReg .c s

/-- `DEC C` (R127). -/
def execDecC (s : State) : Res := decReg .c s

/-- `INC D` (R125). -/
def execIncD (s : State) : Res := incReg .d s

/-- `DEC D` (R127). -/
def execDecD (s : State) : Res := decReg .d s

/-- `INC E` (R125). -/
def execIncE (s : State) : Res := incReg .e s

/-- `DEC E` (R127). -/
def execDecE (s : State) : Res := decReg .e s

/-- `INC H` (R125). -/
def execIncH (s : State) : Res := incReg .h s

/-- `DEC H` (R127). -/
def execDecH (s : State) : Res := decReg .h s

/-- `INC L` (R125). -/
def execIncL (s : State) : Res := incReg .l s

/-- `DEC L` (R127). -/
def execDecL (s : State) : Res := decReg .l s

/-- `INC (HL)` (R126). -/
def execIncAtHl (s : State) : Res := incMem s

/-- `DEC (HL)` (R128). -/
def execDecAtHl (s : State) : Res := decMem s

/-- `INC A` (R125). -/
def execIncA (s : State) : Res := incReg .a s

/-- `DEC A` (R127). -/
def execDecA (s : State) : Res := decReg .a s

end Sys2Proof.Machine
end

