-- ==== Sys2Proof/Machine/Jump.lean ====
section
/-! DEFINITION. Jumps (spec/45_control_flow.md R221 to R226). No flag changes. -/

namespace Sys2Proof.Machine

/-- `PC <- nn` (R221). -/
def jumpAbs (nn : Word) (s : State) : Res := .next ((s.setPc nn).charge .jp)

/-- `JP cc,nn` (R222). -/
def jumpAbsIf (cc : Cond) (nn : Word) (s : State) : Res :=
  if s.cond cc then .next ((s.setPc nn).charge (.jpCond true)) else .next (s.charge (.jpCond false))

/-- `PC <- HL` (R223). -/
def jumpHl (s : State) : Res := .next ((s.setPc s.hl).charge .jpHl)

/-- `JR e` (R224). -/
def jumpRel (e : Byte) (s : State) : Res := .next ((s.setPc (s.relTarget e)).charge .jr)

/-- `JR cc,e` (R225). -/
def jumpRelIf (cc : Cond) (e : Byte) (s : State) : Res :=
  if s.cond cc then .next ((s.setPc (s.relTarget e)).charge (.jrCond true)) else .next (s.charge (.jrCond false))

/-- `DJNZ e`: B is decremented, then tested (R226). -/
def decJumpNonZero (e : Byte) (s : State) : Res :=
  let s' : State := { s with b := s.b - 1#8 }
  if s'.b = 0#8 then .next (s'.charge (.djnz false))
  else .next ((s'.setPc (s'.relTarget e)).charge (.djnz true))

/-- `DJNZ e` (R226). -/
def execDjnzE (e : Byte) (s : State) : Res := decJumpNonZero e s

/-- `JR e` (R224). -/
def execJrE (e : Byte) (s : State) : Res := jumpRel e s

/-- `JR NZ,e` (R225). -/
def execJrNzE (e : Byte) (s : State) : Res := jumpRelIf .nz e s

/-- `JR Z,e` (R225). -/
def execJrZE (e : Byte) (s : State) : Res := jumpRelIf .z e s

/-- `JR NC,e` (R225). -/
def execJrNcE (e : Byte) (s : State) : Res := jumpRelIf .nc e s

/-- `JR C,e` (R225). -/
def execJrCE (e : Byte) (s : State) : Res := jumpRelIf .c e s

/-- `JP NZ,nn` (R222). -/
def execJpNzNn (nn : Word) (s : State) : Res := jumpAbsIf .nz nn s

/-- `JP nn` (R221). -/
def execJpNn (nn : Word) (s : State) : Res := jumpAbs nn s

/-- `JP Z,nn` (R222). -/
def execJpZNn (nn : Word) (s : State) : Res := jumpAbsIf .z nn s

/-- `JP NC,nn` (R222). -/
def execJpNcNn (nn : Word) (s : State) : Res := jumpAbsIf .nc nn s

/-- `JP C,nn` (R222). -/
def execJpCNn (nn : Word) (s : State) : Res := jumpAbsIf .c nn s

/-- `JP (HL)` (R223). -/
def execJpHl (s : State) : Res := jumpHl s

end Sys2Proof.Machine
end

