-- ==== Sys2Proof/Machine/Load16.lean ====
section
/-! DEFINITION. The 16-bit immediate loads and the stack-pointer loads (spec/44_load_store.md R193, R194, R201 to R203). -/

namespace Sys2Proof.Machine

/-- `rp[p] <- nn` (R193, R194). -/
def ldPairImm (p : Rp) (nn : Word) (s : State) : Res := .next ((s.setRp p nn).charge .ldPairImm)

/-- `HL <- SP + e`, Z = N = 0, H and C from the low-byte addition (R201). -/
def ldHlSpOffset (e : Byte) (s : State) : Res :=
  .next (((s.setHl (s.spOffset e)).setFlags false false (spHalf s.sp e) (spCarry s.sp e)).charge .ldHlSp)

/-- `SP <- HL` (R202). -/
def ldSpFromHl (s : State) : Res := .next ((s.setSp s.hl).charge .ldSpHl)

/-- `MemWrite(nn, 2, SP)` (R203). -/
def ldAbsSp (nn : Word) (s : State) : Res :=
  orFault (s.writeWord nn s.sp) fun s' => .next (s'.charge .ldAbsSp)

/-- `LD BC,nn` (R193). -/
def execLdBcNn (nn : Word) (s : State) : Res := ldPairImm .bc nn s

/-- `LD (nn),SP` (R203). -/
def execLdAtNnSp (nn : Word) (s : State) : Res := ldAbsSp nn s

/-- `LD DE,nn` (R193). -/
def execLdDeNn (nn : Word) (s : State) : Res := ldPairImm .de nn s

/-- `LD HL,nn` (R193). -/
def execLdHlNn (nn : Word) (s : State) : Res := ldPairImm .hl nn s

/-- `LD SP,nn` (R194). -/
def execLdSpNn (nn : Word) (s : State) : Res := ldPairImm .sp nn s

/-- `LD HL,SP+e` (R201). -/
def execLdHlSpE (e : Byte) (s : State) : Res := ldHlSpOffset e s

/-- `LD SP,HL` (R202). -/
def execLdSpHl (s : State) : Res := ldSpFromHl s

end Sys2Proof.Machine
end

