-- ==== Sys2Proof/Machine/LoadMem.lean ====
section
/-! DEFINITION. The accumulator loads and stores through BC, DE, HL+, HL-, an absolute address and the high page
(spec/44_load_store.md R185 to R192, R195 to R200). No flag changes. -/

namespace Sys2Proof.Machine

/-- `A <- MemRead(address, 1)`. -/
def ldAAt (address : Word) (row : CostRow) (s : State) : Res :=
  s.withByteAt address fun v s' => ({ s' with a := v }).charge row

/-- `MemWrite(address, 1, A)`. -/
def ldAtA (address : Word) (row : CostRow) (s : State) : Res :=
  s.storeThen address s.a fun s' => s'.charge row

/-- `MemWrite(HL, 1, A)`, then HL stepped modulo 65536 (R189, R191). -/
def ldAtHlStepA (step : Word) (s : State) : Res :=
  s.storeThen s.hl s.a fun s' => (s'.setHl (s'.hl + step)).charge .ldAccStep

/-- `A <- MemRead(HL, 1)`, then HL stepped modulo 65536 (R190, R192). -/
def ldAAtHlStep (step : Word) (s : State) : Res :=
  s.withByteAt s.hl fun v s' => (({ s' with a := v }).setHl (s'.hl + step)).charge .ldAccStep

/-- `LD (BC),A` (R187). -/
def execLdAtBcA (s : State) : Res := ldAtA s.bc .ldAccPair s

/-- `LD A,(BC)` (R185). -/
def execLdAAtBc (s : State) : Res := ldAAt s.bc .ldAccPair s

/-- `LD (DE),A` (R188). -/
def execLdAtDeA (s : State) : Res := ldAtA s.de .ldAccPair s

/-- `LD A,(DE)` (R186). -/
def execLdAAtDe (s : State) : Res := ldAAt s.de .ldAccPair s

/-- `LD (HL+),A` (R189). -/
def execLdAtHlIncA (s : State) : Res := ldAtHlStepA 1 s

/-- `LD A,(HL+)` (R190). -/
def execLdAAtHlInc (s : State) : Res := ldAAtHlStep 1 s

/-- `LD (HL-),A` (R191). -/
def execLdAtHlDecA (s : State) : Res := ldAtHlStepA (-1) s

/-- `LD A,(HL-)` (R192). -/
def execLdAAtHlDec (s : State) : Res := ldAAtHlStep (-1) s

/-- `LDH (n),A` (R197). -/
def execLdhAtNA (n : Byte) (s : State) : Res := ldAtA (highPage n) .ldhImm s

/-- `LD (C),A` (R199). -/
def execLdAtCA (s : State) : Res := ldAtA (highPage s.c) .ldHighC s

/-- `LD (nn),A` (R195). -/
def execLdAtNnA (nn : Word) (s : State) : Res := ldAtA nn .ldAccAbs s

/-- `LDH A,(n)` (R198). -/
def execLdhAAtN (n : Byte) (s : State) : Res := ldAAt (highPage n) .ldhImm s

/-- `LD A,(C)` (R200). -/
def execLdAAtC (s : State) : Res := ldAAt (highPage s.c) .ldHighC s

/-- `LD A,(nn)` (R196). -/
def execLdAAtNn (nn : Word) (s : State) : Res := ldAAt nn .ldAccAbs s

end Sys2Proof.Machine
end

