-- ==== Sys2Proof/Machine/LoadReg.lean ====
section
/-! DEFINITION. The 8-bit loads between registers, the byte at HL and an immediate (spec/44_load_store.md R180 to R184). No flag
changes. -/

namespace Sys2Proof.Machine

/-- `r8[y] <- r8[z]` (R180). -/
def ldRegReg (dst src : R8) (s : State) : Res := .next ((s.setR8 dst (s.r8 src)).charge .ldRegReg)

/-- `r8[y] <- MemRead(HL, 1)`, HL as it was before the write (R181). -/
def ldRegAtHl (dst : R8) (s : State) : Res :=
  s.withByteAt s.hl fun v s' => (s'.setR8 dst v).charge .ldRegMem

/-- `MemWrite(HL, 1, r8[z])` (R182). -/
def ldAtHlReg (src : R8) (s : State) : Res :=
  s.storeThen s.hl (s.r8 src) fun s' => s'.charge .ldRegMem

/-- `r8[y] <- n` (R183). -/
def ldRegImm (dst : R8) (n : Byte) (s : State) : Res := .next ((s.setR8 dst n).charge .ldRegImm)

/-- `MemWrite(HL, 1, n)` (R184). -/
def ldAtHlImm (n : Byte) (s : State) : Res :=
  s.storeThen s.hl n fun s' => s'.charge .ldMemImm

/-- `LD B,n` (R183). -/
def execLdBN (n : Byte) (s : State) : Res := ldRegImm .b n s

/-- `LD C,n` (R183). -/
def execLdCN (n : Byte) (s : State) : Res := ldRegImm .c n s

/-- `LD D,n` (R183). -/
def execLdDN (n : Byte) (s : State) : Res := ldRegImm .d n s

/-- `LD E,n` (R183). -/
def execLdEN (n : Byte) (s : State) : Res := ldRegImm .e n s

/-- `LD H,n` (R183). -/
def execLdHN (n : Byte) (s : State) : Res := ldRegImm .h n s

/-- `LD L,n` (R183). -/
def execLdLN (n : Byte) (s : State) : Res := ldRegImm .l n s

/-- `LD (HL),n` (R184). -/
def execLdAtHlN (n : Byte) (s : State) : Res := ldAtHlImm n s

/-- `LD A,n` (R183). -/
def execLdAN (n : Byte) (s : State) : Res := ldRegImm .a n s

/-- `LD B,B` (R180). -/
def execLdBB (s : State) : Res := ldRegReg .b .b s

/-- `LD B,C` (R180). -/
def execLdBC (s : State) : Res := ldRegReg .b .c s

/-- `LD B,D` (R180). -/
def execLdBD (s : State) : Res := ldRegReg .b .d s

/-- `LD B,E` (R180). -/
def execLdBE (s : State) : Res := ldRegReg .b .e s

/-- `LD B,H` (R180). -/
def execLdBH (s : State) : Res := ldRegReg .b .h s

/-- `LD B,L` (R180). -/
def execLdBL (s : State) : Res := ldRegReg .b .l s

/-- `LD B,(HL)` (R181). -/
def execLdBAtHl (s : State) : Res := ldRegAtHl .b s

/-- `LD B,A` (R180). -/
def execLdBA (s : State) : Res := ldRegReg .b .a s

/-- `LD C,B` (R180). -/
def execLdCB (s : State) : Res := ldRegReg .c .b s

/-- `LD C,C` (R180). -/
def execLdCC (s : State) : Res := ldRegReg .c .c s

/-- `LD C,D` (R180). -/
def execLdCD (s : State) : Res := ldRegReg .c .d s

/-- `LD C,E` (R180). -/
def execLdCE (s : State) : Res := ldRegReg .c .e s

/-- `LD C,H` (R180). -/
def execLdCH (s : State) : Res := ldRegReg .c .h s

/-- `LD C,L` (R180). -/
def execLdCL (s : State) : Res := ldRegReg .c .l s

/-- `LD C,(HL)` (R181). -/
def execLdCAtHl (s : State) : Res := ldRegAtHl .c s

/-- `LD C,A` (R180). -/
def execLdCA (s : State) : Res := ldRegReg .c .a s

/-- `LD D,B` (R180). -/
def execLdDB (s : State) : Res := ldRegReg .d .b s

/-- `LD D,C` (R180). -/
def execLdDC (s : State) : Res := ldRegReg .d .c s

/-- `LD D,D` (R180). -/
def execLdDD (s : State) : Res := ldRegReg .d .d s

/-- `LD D,E` (R180). -/
def execLdDE (s : State) : Res := ldRegReg .d .e s

/-- `LD D,H` (R180). -/
def execLdDH (s : State) : Res := ldRegReg .d .h s

/-- `LD D,L` (R180). -/
def execLdDL (s : State) : Res := ldRegReg .d .l s

/-- `LD D,(HL)` (R181). -/
def execLdDAtHl (s : State) : Res := ldRegAtHl .d s

/-- `LD D,A` (R180). -/
def execLdDA (s : State) : Res := ldRegReg .d .a s

/-- `LD E,B` (R180). -/
def execLdEB (s : State) : Res := ldRegReg .e .b s

/-- `LD E,C` (R180). -/
def execLdEC (s : State) : Res := ldRegReg .e .c s

/-- `LD E,D` (R180). -/
def execLdED (s : State) : Res := ldRegReg .e .d s

/-- `LD E,E` (R180). -/
def execLdEE (s : State) : Res := ldRegReg .e .e s

/-- `LD E,H` (R180). -/
def execLdEH (s : State) : Res := ldRegReg .e .h s

/-- `LD E,L` (R180). -/
def execLdEL (s : State) : Res := ldRegReg .e .l s

/-- `LD E,(HL)` (R181). -/
def execLdEAtHl (s : State) : Res := ldRegAtHl .e s

/-- `LD E,A` (R180). -/
def execLdEA (s : State) : Res := ldRegReg .e .a s

/-- `LD H,B` (R180). -/
def execLdHB (s : State) : Res := ldRegReg .h .b s

/-- `LD H,C` (R180). -/
def execLdHC (s : State) : Res := ldRegReg .h .c s

/-- `LD H,D` (R180). -/
def execLdHD (s : State) : Res := ldRegReg .h .d s

/-- `LD H,E` (R180). -/
def execLdHE (s : State) : Res := ldRegReg .h .e s

/-- `LD H,H` (R180). -/
def execLdHH (s : State) : Res := ldRegReg .h .h s

/-- `LD H,L` (R180). -/
def execLdHL (s : State) : Res := ldRegReg .h .l s

/-- `LD H,(HL)` (R181). -/
def execLdHAtHl (s : State) : Res := ldRegAtHl .h s

/-- `LD H,A` (R180). -/
def execLdHA (s : State) : Res := ldRegReg .h .a s

/-- `LD L,B` (R180). -/
def execLdLB (s : State) : Res := ldRegReg .l .b s

/-- `LD L,C` (R180). -/
def execLdLC (s : State) : Res := ldRegReg .l .c s

/-- `LD L,D` (R180). -/
def execLdLD (s : State) : Res := ldRegReg .l .d s

/-- `LD L,E` (R180). -/
def execLdLE (s : State) : Res := ldRegReg .l .e s

/-- `LD L,H` (R180). -/
def execLdLH (s : State) : Res := ldRegReg .l .h s

/-- `LD L,L` (R180). -/
def execLdLL (s : State) : Res := ldRegReg .l .l s

/-- `LD L,(HL)` (R181). -/
def execLdLAtHl (s : State) : Res := ldRegAtHl .l s

/-- `LD L,A` (R180). -/
def execLdLA (s : State) : Res := ldRegReg .l .a s

/-- `LD (HL),B` (R182). -/
def execLdAtHlB (s : State) : Res := ldAtHlReg .b s

/-- `LD (HL),C` (R182). -/
def execLdAtHlC (s : State) : Res := ldAtHlReg .c s

/-- `LD (HL),D` (R182). -/
def execLdAtHlD (s : State) : Res := ldAtHlReg .d s

/-- `LD (HL),E` (R182). -/
def execLdAtHlE (s : State) : Res := ldAtHlReg .e s

/-- `LD (HL),H` (R182). -/
def execLdAtHlH (s : State) : Res := ldAtHlReg .h s

/-- `LD (HL),L` (R182). -/
def execLdAtHlL (s : State) : Res := ldAtHlReg .l s

/-- `LD (HL),A` (R182). -/
def execLdAtHlA (s : State) : Res := ldAtHlReg .a s

/-- `LD A,B` (R180). -/
def execLdAB (s : State) : Res := ldRegReg .a .b s

/-- `LD A,C` (R180). -/
def execLdAC (s : State) : Res := ldRegReg .a .c s

/-- `LD A,D` (R180). -/
def execLdAD (s : State) : Res := ldRegReg .a .d s

/-- `LD A,E` (R180). -/
def execLdAE (s : State) : Res := ldRegReg .a .e s

/-- `LD A,H` (R180). -/
def execLdAH (s : State) : Res := ldRegReg .a .h s

/-- `LD A,L` (R180). -/
def execLdAL (s : State) : Res := ldRegReg .a .l s

/-- `LD A,(HL)` (R181). -/
def execLdAAtHl (s : State) : Res := ldRegAtHl .a s

/-- `LD A,A` (R180). -/
def execLdAA (s : State) : Res := ldRegReg .a .a s

end Sys2Proof.Machine
end

