-- ==== Sys2Proof/Machine/RotateAcc.lean ====
section
/-! DEFINITION. The four accumulator rotates (spec/43_rotate_shift_bit.md R150 to R153). Z is cleared even for a zero result. -/

namespace Sys2Proof.Machine

/-- `A` rotated by `op`; Z = N = H = 0, C the bit shifted out. -/
def rotateA (op : ShiftOp) (s : State) : Res :=
  let r := shift op s.a s.flagC
  .next ((({ s with a := r.1 }).setFlags false false false r.2).charge .rotateA)

/-- `RLCA` (R150). -/
def execRlca (s : State) : Res := rotateA .rlc s

/-- `RRCA` (R152). -/
def execRrca (s : State) : Res := rotateA .rrc s

/-- `RLA` (R151). -/
def execRla (s : State) : Res := rotateA .rl s

/-- `RRA` (R153). -/
def execRra (s : State) : Res := rotateA .rr s

end Sys2Proof.Machine
end

