-- ==== Sys2Proof/Machine/Stack.lean ====
section
/-! DEFINITION. PUSH and POP (spec/44_load_store.md R204 to R207). -/

namespace Sys2Proof.Machine

/-- `Push16(rp2[p])` (R204, R205). -/
def pushPair (p : Rp2) (s : State) : Res :=
  orFault (s.push16 (s.rp2 p)) fun s' => .next (s'.charge .push)

/-- `rp2[p] <- Pop16()`; into AF the low nibble of the popped byte is dropped (R206, R207). -/
def popPair (p : Rp2) (s : State) : Res :=
  orFault s.pop16 fun popped => .next ((popped.2.setRp2 p popped.1).charge .pop)

/-- `POP BC` (R206). -/
def execPopBc (s : State) : Res := popPair .bc s

/-- `PUSH BC` (R204). -/
def execPushBc (s : State) : Res := pushPair .bc s

/-- `POP DE` (R206). -/
def execPopDe (s : State) : Res := popPair .de s

/-- `PUSH DE` (R204). -/
def execPushDe (s : State) : Res := pushPair .de s

/-- `POP HL` (R206). -/
def execPopHl (s : State) : Res := popPair .hl s

/-- `PUSH HL` (R204). -/
def execPushHl (s : State) : Res := pushPair .hl s

/-- `POP AF` (R207). -/
def execPopAf (s : State) : Res := popPair .af s

/-- `PUSH AF` (R205). -/
def execPushAf (s : State) : Res := pushPair .af s

end Sys2Proof.Machine
end

