-- ==== Sys2Proof/Machine/Fetch.lean ====
section
/-! DEFINITION. Fetching an instruction (spec/40_dispatch.md R80, R81, R83), what a step does around exec, and placing
an instruction where the next fetch reads. -/

namespace Sys2Proof.Machine

/-- What a fetch gets: the instruction, its length, and the state after the reads (PC not advanced yet). -/
structure Fetched where
  instr : Instr
  length : Nat
  after : State

/-- The instruction at PC, its bytes read one after another at PC, PC + 1, PC + 2 modulo 65536 and only as many as the
first byte asks for (R49, R66), each a fresh read (R53); `none` is MemFault at the first refused read (R268). -/
def State.fetch (s : State) : Option Fetched :=
  (s.readByte s.pc).bind fun r0 =>
    match instrLength r0.1 with
    | 1 => some ⟨decodeBytes r0.1 0 0, 1, r0.2⟩
    | 2 => (r0.2.readByte (s.pc + 1)).bind fun r1 => some ⟨decodeBytes r0.1 r1.1 0, 2, r1.2⟩
    | _ =>
      (r0.2.readByte (s.pc + 1)).bind fun r1 =>
        (r1.2.readByte (s.pc + 2)).bind fun r2 => some ⟨decodeBytes r0.1 r1.1 r2.1, 3, r2.2⟩

/-- PC past `length` bytes and R one further modulo 128: once per instruction, operand bytes and the CB second byte
not counted (R18, R80, D14). -/
def State.advance (s : State) (length : Nat) : State :=
  { s with pc := s.pc + BitVec.ofNat 16 length, r := s.r + 1 }

/-- Step (d) of the loop: a completed instruction's M and T go to the totals (R80, R87). -/
def accounted : Res → Res
  | .next t => .next t.account
  | .fault r => .fault r
  | .refused r => .refused r

/-- One executed step of a core that is not held. -/
def runFetched (s : State) : Res := 
  orFault s.fetch fun got => accounted (exec got.instr (got.after.advance got.length))

/-- Three bytes at PC, PC + 1, PC + 2, the RAM answering there, and the hold bits clear, so that the next step fetches
them. -/
def State.placeAtPc (s : State) (b0 b1 b2 : Byte) : State :=
  { ((s.poke s.pc b0).poke (s.pc + 1) b1).poke (s.pc + 2) b2 with
    halt := false
    stop := false
    answers := s.answers.filter fun x => x.1 ≠ s.pc && x.1 ≠ s.pc + 1 && x.1 ≠ s.pc + 2 }

/-- The instruction whose low `nbits` bits are `w`'s and whose other bits are zero, placed at PC (log 12). -/
def State.placeTableWord (s : State) (nbits w : Nat) : State :=
  let v := w % 2 ^ nbits
  s.placeAtPc (tableByte v 0) (tableByte v 1) (tableByte v 2)

end Sys2Proof.Machine
end

