-- ==== Sys2Proof/Machine/Step.lean ====
section
/-! DEFINITION. One step of the core (spec/40_dispatch.md R80, R85). -/

namespace Sys2Proof.Machine

/-- `step()`: a held core does nothing at all (R85); otherwise one instruction is fetched, executed, accounted. -/
def step (s : State) : Host.Outcome State Fault Refusal :=
  if s.haltedOrStopped then .next s else runFetched s

/-- `s` with an instruction of the opcode table placed where its next fetch reads. -/
def State.withFetchWord (s : State) (nbits w : Nat) : State := s.placeTableWord nbits w

end Sys2Proof.Machine
end

