-- ==== Sys2Proof/Machine/HostOps.lean ====
section
/-! DEFINITION. What the host may do between steps (spec/00_scope.md R2, spec/60_exceptions.md R265, R267, R276,
spec/70_reset_and_hazards.md R281, R282). `HostResume` and `haltedOrStopped` stand in Machine/Ops.lean. No step
calls any of these (log 9). -/

namespace Sys2Proof.Machine

/-- What the platform may do between steps: memory may be changed freely (R50), and with it whatever MEM will answer
(R41). Only MEM changes. -/
def State.withMem (s : State) (mem : List Host.Cell) (regions : List Region) (answers : List (Word × Answer)) : State :=
  { s with mem := mem, regions := regions, answers := answers }

/-- `init(memoryInterface)`: binds MEM, any oracle, and fixes CB_RES_SET; no register changes (R24, R282). -/
def State.hostInit (s : State) (mem : List Host.Cell) (regions : List Region) (answers : List (Word × Answer))
    (cbResSet : CbResSet) : State :=
  { s.withMem mem regions answers with cbResSet := cbResSet }

/-- `reset()` with the parameter INIT: every register and both clocks are written, memory is not touched (R281). -/
def State.hostReset (s : State) (init : Init) : State :=
  { State.resetWith init with
    mem := s.mem, regions := s.regions, answers := s.answers, cbResSet := s.cbResSet, reports := s.reports }

/-- `HostStop()` (R276). -/
def State.hostStop (s : State) : State := { s with stop := true }

/-- The five vectors of the host interrupt entry (R267; no other value exists, U13). -/
inductive InterruptVector where
  | v40 | v48 | v50 | v58 | v60
  deriving DecidableEq, Repr

/-- The address a vector jumps to (R267). -/
def vectorAddress : InterruptVector → Word
  | .v40 => 0x0040#16
  | .v48 => 0x0048#16
  | .v50 => 0x0050#16
  | .v58 => 0x0058#16
  | .v60 => 0x0060#16

/-- `InterruptEntry(v)` (R267): nothing on a stopped core; else `halt` and IME are cleared, PC is pushed, PC becomes
the vector, and the cost is set and accounted. IME is not tested; R is not incremented. -/
def State.interruptEntry (s : State) (v : InterruptVector) : Res :=
  if s.stop then .next s
  else
    orFault (({ s with halt := false, ime := false }).push16 s.pc) fun s' =>
      .next ((s'.setPc (vectorAddress v)).charge .interruptEntry).account

/-- `execute()` for at most `fuel` steps: steps until a hold bit is set (R86, log 11). -/
def execute : Nat → State → Res
  | 0, s => .next s
  | fuel + 1, s =>
    if s.haltedOrStopped then .next s
    else
      match step s with
      | .next t => execute fuel t
      | .fault r => .fault r
      | .refused r => .refused r

end Sys2Proof.Machine
end

