-- ==== Sys2Proof/Safety.lean ====
section
/-! DEFINITION. The terms in which claims speak: the invariant of the core, what a store or a push leaves, and the
per-instruction tables of spec/10_state.md R31 (flags) and spec/20_memory.md R46 (accesses). -/

namespace Sys2Proof.Machine

/-- The invariant: the low nibble of F is zero (R15), T is four times M and CLK_T four times CLK_M (R22, R23), and
memory is in its canonical form. -/
structure State.Inv (s : State) : Prop where
  lowNibble : s.f &&& 0x0F#8 = 0#8
  states : s.t = 4 * s.m
  totals : s.clkT = 4 * s.clkM
  canonical : Memory.wf s.mem = true

/-- MEM holds no answer and no region that would refuse an access: it never faults (R45, R261). -/
def State.neverRefuses (s : State) : Bool :=
  (s.regions.all fun g => !g.refusesRead && !g.refusesWrite) && s.answers.all fun x => decide (x.2 ≠ .refuse)

/-- What a write of `v`, the next access of `s` at `a`, leaves in the RAM: the byte at `a` is `v` if the write reaches
the RAM, else as it was, and every other byte is as it was. -/
def StoredAt (s t : State) (a : Word) (v : Byte) : Prop :=
  t.peek a = (if s.keepsWrite a then v else s.peek a) ∧ ∀ x, x ≠ a → t.peek x = s.peek x

/-- What a push of `v` leaves in the RAM: the high byte at `s.sp - 1` and the low byte at `s.sp - 2` (R56), each if its
write reaches the RAM, and every other byte as it was. -/
def PushedAt (s t : State) (v : Word) : Prop :=
  t.peek (s.sp - 1) = (if s.keepsWrite (s.sp - 1) then hiByte v else s.peek (s.sp - 1)) ∧
    t.peek (s.sp - 2) = (if s.keepsWrite (s.sp - 2) then loByte v else s.peek (s.sp - 2)) ∧
    ∀ x, x ≠ s.sp - 1 → x ≠ s.sp - 2 → t.peek x = s.peek x

/-- The interface answers a read at `a` and then accepts a write there: the accesses of a read-modify-write (R46). -/
def State.canModify (s : State) (a : Word) : Bool := s.canRead a && (s.accessed [a]).canWrite a

/-- The interface accepts the two writes of a push. -/
def State.canPush (s : State) : Bool := s.canWrite (s.sp - 1) && s.canWrite (s.sp - 2)

/-- The interface answers the two reads of a pop. -/
def State.canPop (s : State) : Bool := s.canRead s.sp && s.canRead (s.sp + 1)

/-- The word a pop reads: low byte at SP, high byte at SP + 1 (R208). -/
def State.stackTop (s : State) : Word := joinBytes (s.readValue (s.sp + 1)) (s.readValue s.sp)

/-- The addresses of the bytes of an instruction at PC, by its length. -/
def State.fetchAddresses (s : State) : Nat → List Word
  | 0 => []
  | 1 => [s.pc]
  | 2 => [s.pc, s.pc + 1]
  | _ => [s.pc, s.pc + 1, s.pc + 2]

/-- The eleven illegal primary bytes (R70). -/
def illegalPrimaryBytes : List Byte :=
  [0xD3#8, 0xDB#8, 0xDD#8, 0xE3#8, 0xE4#8, 0xEB#8, 0xEC#8, 0xED#8, 0xF4#8, 0xFC#8, 0xFD#8]

/-- Bit `i` of the result of a rotate or shift of `v`, in the words of R149: the vacated bit comes from Carry, from the
bit evicted, from the sign bit or is zero; SWAP exchanges the nibbles. -/
def shiftedBit (op : ShiftOp) (v : Byte) (cin : Bool) (i : Nat) : Bool :=
  match op with
  | .rlc => if i = 0 then v.getLsbD 7 else v.getLsbD (i - 1)
  | .rl => if i = 0 then cin else v.getLsbD (i - 1)
  | .sla => if i = 0 then false else v.getLsbD (i - 1)
  | .rrc => if i = 7 then v.getLsbD 0 else v.getLsbD (i + 1)
  | .rr => if i = 7 then cin else v.getLsbD (i + 1)
  | .sra => if i = 7 then v.getLsbD 7 else v.getLsbD (i + 1)
  | .srl => if i = 7 then false else v.getLsbD (i + 1)
  | .swap => v.getLsbD ((i + 4) % 8)

/-- The bit shifted out (R149); none leaves in SWAP. -/
def shiftedOut (op : ShiftOp) (v : Byte) : Bool :=
  match op with
  | .rlc | .rl | .sla => v.getLsbD 7
  | .rrc | .rr | .sra | .srl => v.getLsbD 0
  | .swap => false

/-- The addresses an instruction reads data from (R46), formed as its meaning forms them; its own bytes, which the fetch
reads, are not among them. -/
def loadAddresses (i : Instr) (s : State) : List Word :=
  match i with
  | .ldAAtHlInc | .incAtHl | .decAtHl | .ldAAtHlDec | .ldBAtHl | .ldCAtHl
  | .ldDAtHl | .ldEAtHl | .ldHAtHl | .ldLAtHl | .ldAAtHl | .addAAtHl
  | .adcAAtHl | .subAtHl | .sbcAAtHl | .andAtHl | .xorAtHl | .orAtHl
  | .cpAtHl | .rlcAtHl | .rrcAtHl | .rlAtHl | .rrAtHl | .slaAtHl
  | .sraAtHl | .swapAtHl | .srlAtHl | .bit0AtHl | .bit1AtHl | .bit2AtHl
  | .bit3AtHl | .bit4AtHl | .bit5AtHl | .bit6AtHl | .bit7AtHl => [s.hl]
  | .res0AtHl | .res1AtHl | .res2AtHl | .res3AtHl | .res4AtHl | .res5AtHl
  | .res6AtHl | .res7AtHl | .set0AtHl | .set1AtHl | .set2AtHl | .set3AtHl
  | .set4AtHl | .set5AtHl | .set6AtHl | .set7AtHl => if s.cbResSet = .implemented then [s.hl] else []
  | .prefixCb op2 =>
    if fieldZ op2 = 6 ∧ (fieldX op2 < 2 ∨ s.cbResSet = .implemented) then [s.hl] else []
  | .ldAAtBc => [s.bc]
  | .ldAAtDe => [s.de]
  | .ldAAtNn nn => [nn]
  | .ldhAAtN n => [highPage n]
  | .ldAAtC => [highPage s.c]
  | .popBc | .ret | .popDe | .reti | .popHl | .popAf => [s.sp, s.sp + 1]
  | .retNz => if s.cond .nz then [s.sp, s.sp + 1] else []
  | .retZ => if s.cond .z then [s.sp, s.sp + 1] else []
  | .retNc => if s.cond .nc then [s.sp, s.sp + 1] else []
  | .retC => if s.cond .c then [s.sp, s.sp + 1] else []
  | _ => []

/-- The addresses an instruction stores to (R46), formed as its meaning forms them. -/
def storeAddresses (i : Instr) (s : State) : List Word :=
  match i with
  | .ldAtHlN _ | .ldAtHlIncA | .ldAtHlDecA | .incAtHl | .decAtHl | .ldAtHlB
  | .ldAtHlC | .ldAtHlD | .ldAtHlE | .ldAtHlH | .ldAtHlL | .ldAtHlA
  | .rlcAtHl | .rrcAtHl | .rlAtHl | .rrAtHl | .slaAtHl | .sraAtHl
  | .swapAtHl | .srlAtHl => [s.hl]
  | .res0AtHl | .res1AtHl | .res2AtHl | .res3AtHl | .res4AtHl | .res5AtHl
  | .res6AtHl | .res7AtHl | .set0AtHl | .set1AtHl | .set2AtHl | .set3AtHl
  | .set4AtHl | .set5AtHl | .set6AtHl | .set7AtHl => if s.cbResSet = .implemented then [s.hl] else []
  | .prefixCb op2 =>
    if fieldZ op2 = 6 ∧ (fieldX op2 = 0 ∨ (2 ≤ fieldX op2 ∧ s.cbResSet = .implemented)) then [s.hl] else []
  | .ldAtBcA => [s.bc]
  | .ldAtDeA => [s.de]
  | .ldAtNnA nn => [nn]
  | .ldhAtNA n => [highPage n]
  | .ldAtCA => [highPage s.c]
  | .ldAtNnSp nn => [nn, nn + 1]
  | .callNn _ | .pushBc | .rst00 | .rst08 | .pushDe | .rst10
  | .rst18 | .pushHl | .rst20 | .rst28 | .pushAf | .rst30
  | .rst38 => [s.sp - 1, s.sp - 2]
  | .callNzNn _ => if s.cond .nz then [s.sp - 1, s.sp - 2] else []
  | .callZNn _ => if s.cond .z then [s.sp - 1, s.sp - 2] else []
  | .callNcNn _ => if s.cond .nc then [s.sp - 1, s.sp - 2] else []
  | .callCNn _ => if s.cond .c then [s.sp - 1, s.sp - 2] else []
  | _ => []

/-- The bits of F an instruction may change: the columns of R31 that are not '-'. -/
def flagMask (i : Instr) : Byte :=
  match i with
  | .addAN _ | .adcAN _ | .subN _ | .sbcAN _ | .andN _ | .xorN _
  | .orN _ | .cpN _ | .addAB | .addAC | .addAD | .addAE
  | .addAH | .addAL | .addAAtHl | .addAA | .adcAB | .adcAC
  | .adcAD | .adcAE | .adcAH | .adcAL | .adcAAtHl | .adcAA
  | .subB | .subC | .subD | .subE | .subH | .subL
  | .subAtHl | .subA | .sbcAB | .sbcAC | .sbcAD | .sbcAE
  | .sbcAH | .sbcAL | .sbcAAtHl | .sbcAA | .andB | .andC
  | .andD | .andE | .andH | .andL | .andAtHl | .andA
  | .xorB | .xorC | .xorD | .xorE | .xorH | .xorL
  | .xorAtHl | .xorA | .orB | .orC | .orD | .orE
  | .orH | .orL | .orAtHl | .orA | .cpB | .cpC
  | .cpD | .cpE | .cpH | .cpL | .cpAtHl | .cpA => 0xF0#8
  | .incB | .decB | .incC | .decC | .incD | .decD
  | .incE | .decE | .incH | .decH | .incL | .decL
  | .incAtHl | .decAtHl | .incA | .decA => 0xE0#8
  | .cpl => 0x60#8
  | .ccf | .scf => 0x70#8
  | .daa => 0xB0#8
  | .addHlBc | .addHlDe | .addHlHl | .addHlSp => 0x10#8
  | .addSpE _ | .ldHlSpE _ | .popAf | .rlca | .rla | .rrca | .rra => 0xF0#8
  | .rlcB | .rlcC | .rlcD | .rlcE | .rlcH | .rlcL
  | .rlcAtHl | .rlcA | .rrcB | .rrcC | .rrcD | .rrcE
  | .rrcH | .rrcL | .rrcAtHl | .rrcA | .rlB | .rlC
  | .rlD | .rlE | .rlH | .rlL | .rlAtHl | .rlA
  | .rrB | .rrC | .rrD | .rrE | .rrH | .rrL
  | .rrAtHl | .rrA | .slaB | .slaC | .slaD | .slaE
  | .slaH | .slaL | .slaAtHl | .slaA | .sraB | .sraC
  | .sraD | .sraE | .sraH | .sraL | .sraAtHl | .sraA
  | .swapB | .swapC | .swapD | .swapE | .swapH | .swapL
  | .swapAtHl | .swapA | .srlB | .srlC | .srlD | .srlE
  | .srlH | .srlL | .srlAtHl | .srlA => 0xF0#8
  | .bit0B | .bit0C | .bit0D | .bit0E | .bit0H | .bit0L
  | .bit0AtHl | .bit0A | .bit1B | .bit1C | .bit1D | .bit1E
  | .bit1H | .bit1L | .bit1AtHl | .bit1A | .bit2B | .bit2C
  | .bit2D | .bit2E | .bit2H | .bit2L | .bit2AtHl | .bit2A
  | .bit3B | .bit3C | .bit3D | .bit3E | .bit3H | .bit3L
  | .bit3AtHl | .bit3A | .bit4B | .bit4C | .bit4D | .bit4E
  | .bit4H | .bit4L | .bit4AtHl | .bit4A | .bit5B | .bit5C
  | .bit5D | .bit5E | .bit5H | .bit5L | .bit5AtHl | .bit5A
  | .bit6B | .bit6C | .bit6D | .bit6E | .bit6H | .bit6L
  | .bit6AtHl | .bit6A | .bit7B | .bit7C | .bit7D | .bit7E
  | .bit7H | .bit7L | .bit7AtHl | .bit7A => 0xE0#8
  | .prefixCb op2 => if fieldX op2 = 0 then 0xF0#8 else if fieldX op2 = 1 then 0xE0#8 else 0#8
  | _ => 0#8

/-- The instructions that are the illegal-opcode handler under a setting of CB_RES_SET (R70, R71). -/
def isIllegal (i : Instr) (setting : CbResSet) : Bool :=
  match i with
  | .illegalD3 | .illegalDB | .illegalDD | .illegalE3 | .illegalE4 | .illegalEB
  | .illegalEC | .illegalED | .illegalF4 | .illegalFC | .illegalFD => true
  | .res0B | .res0C | .res0D | .res0E | .res0H | .res0L
  | .res0AtHl | .res0A | .res1B | .res1C | .res1D | .res1E
  | .res1H | .res1L | .res1AtHl | .res1A | .res2B | .res2C
  | .res2D | .res2E | .res2H | .res2L | .res2AtHl | .res2A
  | .res3B | .res3C | .res3D | .res3E | .res3H | .res3L
  | .res3AtHl | .res3A | .res4B | .res4C | .res4D | .res4E
  | .res4H | .res4L | .res4AtHl | .res4A | .res5B | .res5C
  | .res5D | .res5E | .res5H | .res5L | .res5AtHl | .res5A
  | .res6B | .res6C | .res6D | .res6E | .res6H | .res6L
  | .res6AtHl | .res6A | .res7B | .res7C | .res7D | .res7E
  | .res7H | .res7L | .res7AtHl | .res7A | .set0B | .set0C
  | .set0D | .set0E | .set0H | .set0L | .set0AtHl | .set0A
  | .set1B | .set1C | .set1D | .set1E | .set1H | .set1L
  | .set1AtHl | .set1A | .set2B | .set2C | .set2D | .set2E
  | .set2H | .set2L | .set2AtHl | .set2A | .set3B | .set3C
  | .set3D | .set3E | .set3H | .set3L | .set3AtHl | .set3A
  | .set4B | .set4C | .set4D | .set4E | .set4H | .set4L
  | .set4AtHl | .set4A | .set5B | .set5C | .set5D | .set5E
  | .set5H | .set5L | .set5AtHl | .set5A | .set6B | .set6C
  | .set6D | .set6E | .set6H | .set6L | .set6AtHl | .set6A
  | .set7B | .set7C | .set7D | .set7E | .set7H | .set7L
  | .set7AtHl | .set7A => setting == .illegal
  | .prefixCb op2 => decide (2 ≤ fieldX op2) && setting == .illegal
  | _ => false

end Sys2Proof.Machine
end

