-- ==== Sys2Proof/Certificates/Slice0/Obligations.lean ====
section
/-! DEFINITION. The statements about the model, each in terms of the rule of spec/ its docstring names. A statement
that gives `exec`'s answer as an equation states the frame with it: every field not written is as before; for a
storing form the answer is given with `StoredAt` or `PushedAt`, which say that every other byte of memory is as
before. MEM is an oracle (R41): whether it answers an access, and with what, is `canRead`, `canWrite`, `readValue` and
`keepsWrite` of the state, for every MEM; `s.accessed l` is `s` with the answers to accesses at the addresses `l` taken,
all else the same. That MEM stands in the state as a RAM with regions and answers by address is the model's choice
(log 3). -/

open Sys2Proof Sys2Proof.Machine

/-! ### Encoding -/

/-- Every well-formed instruction, with every operand at every value, decodes from its own bytes, and the bytes
after it are left over (spec/30_encoding.md R60 to R69). -/
def Obligations.DecodeOfEncode : Prop :=
  ∀ (i : Instr) (rest : List Byte), i.wellFormed = true → decode (encode i ++ rest) = .instr i rest

/-- Each byte string has one meaning: what three bytes decode to is well formed, encodes to the first of those bytes,
and as many of them as the first byte tells (R66), which is 1, 2 or 3 (R60). -/
def Obligations.EncodeOfDecode : Prop :=
  ∀ b0 b1 b2 : Byte,
    (decodeBytes b0 b1 b2).wellFormed = true ∧
    encode (decodeBytes b0 b1 b2) = [b0, b1, b2].take (instrLength b0) ∧
    1 ≤ instrLength b0 ∧ instrLength b0 ≤ 3

/-- Words written out from the maps of R68 and R69, one or more per family. -/
def Obligations.KnownWordsDecode : Prop :=
  decode [0x41] = .instr .ldBC [] ∧
  decode [0x36, 0xAB] = .instr (.ldAtHlN 0xAB) [] ∧
  decode [0x08, 0x00, 0xC1] = .instr (.ldAtNnSp 0xC100) [] ∧
  decode [0x2A] = .instr .ldAAtHlInc [] ∧
  decode [0xF0, 0xFF] = .instr (.ldhAAtN 0xFF) [] ∧
  decode [0xF1] = .instr .popAf [] ∧
  decode [0x9E] = .instr .sbcAAtHl [] ∧
  decode [0xE6, 0x38] = .instr (.andN 0x38) [] ∧
  decode [0x35] = .instr .decAtHl [] ∧
  decode [0x27] = .instr .daa [] ∧
  decode [0x39] = .instr .addHlSp [] ∧
  decode [0x1F] = .instr .rra [] ∧
  decode [0xCB, 0x37] = .instr .swapA [] ∧
  decode [0xCB, 0x65] = .instr .bit4L [] ∧
  decode [0xCB, 0xBE] = .instr .res7AtHl [] ∧
  decode [0xCB, 0xCB] = .instr .set1E [] ∧
  decode [0x10, 0xFD] = .instr (.djnzE 0xFD) [] ∧
  decode [0xDC, 0x00, 0x40] = .instr (.callCNn 0x4000) [] ∧
  decode [0xEF] = .instr .rst28 [] ∧
  decode [0x76] = .instr .halt [] ∧
  decode [0xED] = .instr .illegalED []

/-- PREFIX CB executes the instruction the CB table gives the second byte (R83). Where the byte at HL may be read and
written it completes: PC stays past the two bytes, R is not incremented again, and the cost is that of the whole
instruction. In a step the prefix and its second byte are one instruction, wherever the prefix stands, and a refused
fetch of the second byte is MemFault. That R counts the prefix alone is the spec's decision D14. -/
def Obligations.PrefixRunsCbSlot : Prop :=
  ∀ (op2 : Byte) (s : State),
    exec (.prefixCb op2) s = exec (decodeCb op2) s ∧
    (s.canModify s.hl = true →
      ∃ t, exec (.prefixCb op2) s = .next t ∧ exec (decodeCb op2) s = .next t ∧
        t.pc = s.pc ∧ t.sp = s.sp ∧ t.r = s.r ∧
        (t.m = 2 ∨ t.m = 3 ∨ t.m = 4 ∨ (t.m = 0 ∧ t.stop = true))) ∧
    (s.haltedOrStopped = false → s.canRead s.pc = true → s.canRead (s.pc + 1) = true →
      s.readValue s.pc = 0xCB#8 → s.readValue (s.pc + 1) = op2 →
      step s = accounted (exec (decodeCb op2) { s.accessed [s.pc, s.pc + 1] with pc := s.pc + 2, r := s.r + 1 })) ∧
    (s.haltedOrStopped = false → s.canRead s.pc = true → s.readValue s.pc = 0xCB#8 → s.canRead (s.pc + 1) = false →
      step s = .fault .memFault)

/-! ### Reset, the step, the invariant -/

/-- `reset()` writes every register from INIT, sets IME, clears both hold bits and all four counters, and does not
touch memory (R281). That M, T, `halt` and `stop` are cleared is the spec's decision D6. -/
def Obligations.ResetWritesEverything : Prop :=
  ∀ (s : State) (init : Init),
    { s.hostReset init with
      regions := s.regions, answers := s.answers, cbResSet := s.cbResSet, reports := s.reports } =
      { a := init.a, b := init.b, c := init.c, d := init.d, e := init.e, h := init.h, l := init.l, f := init.f
        pc := init.pc, sp := init.sp, r := init.r, ime := true, halt := false, stop := false
        m := 0, t := 0, clkM := 0, clkT := 0
        mem := s.mem, regions := s.regions, answers := s.answers, cbResSet := s.cbResSet, reports := s.reports } ∧
    (s.hostReset init).haltedOrStopped = false

/-- The invariant holds after reset: for the model's own reset state and for every INIT; INIT's F has a zero low
nibble, as R4 requires. (That INIT is zero in `State.reset` is the model's choice, log 1.) -/
def Obligations.ResetMeetsInvariant : Prop :=
  State.reset.Inv ∧ ∀ init : Init, init.f &&& 0x0F#8 = 0#8 ∧ (State.resetWith init).Inv

/-- Every step keeps the invariant: low nibble of F zero, T = 4 M, CLK_T = 4 CLK_M, memory canonical. -/
def Obligations.StepKeepsInvariant : Prop :=
  ∀ s t : State, s.Inv → step s = .next t → t.Inv

/-- Every host operation keeps the invariant; `init` and the platform may bind any MEM whose RAM is canonical data. -/
def Obligations.HostOperationsKeepInvariant : Prop :=
  ∀ s : State, s.Inv →
    (∀ init : Init, (s.hostReset init).Inv) ∧ s.hostResume.Inv ∧ s.hostStop.Inv ∧
    (∀ (v : InterruptVector) (t : State), s.interruptEntry v = .next t → t.Inv) ∧
    ∀ (mem : List Host.Cell) (regions : List Region) (answers : List (Word × Answer)) (setting : CbResSet),
      Memory.wf mem = true → (s.withMem mem regions answers).Inv ∧ (s.hostInit mem regions answers setting).Inv

/-- With `halt` or `stop` set a step changes nothing, and so does any number of steps and `execute`. Reset lifts both
bits, an interrupt entry lifts `halt` when it is not stopped, `HostResume` lifts `stop` (R85). That a held step
changes nothing at all is the spec's decision D10, the host's ways out are D11 and D29. -/
def Obligations.HeldCoreChangesNothing : Prop :=
  ∀ s : State, s.haltedOrStopped = true →
    step s = .next s ∧
    (∀ n, Host.Core.run Sys2Proof.core n s = .next s) ∧
    (∀ n, execute n s = .next s) ∧
    (∀ init, (s.hostReset init).haltedOrStopped = false) ∧
    (∀ v t, s.stop = false → s.interruptEntry v = .next t → t.haltedOrStopped = false) ∧
    s.hostResume.haltedOrStopped = s.halt

/-- A step runs the decoded instruction: when the bytes MEM answers at PC decode to `i` and no read of its bytes is
refused, the step of a core that is not held is `exec i` with PC past the instruction's bytes and R one further, and M
and T are then added to the totals (R80). -/
def Obligations.StepRunsDecodedInstruction : Prop :=
  ∀ (s : State) (i : Instr) (rest : List Byte),
    s.haltedOrStopped = false →
    decode [s.readValue s.pc, s.readValue (s.pc + 1), s.readValue (s.pc + 2)] = .instr i rest →
    (∀ k : Nat, k < instrLength (s.readValue s.pc) → s.canRead (s.pc + BitVec.ofNat 16 k) = true) →
    let k := instrLength (s.readValue s.pc)
    step s =
      match exec i { s.accessed (s.fetchAddresses k) with pc := s.pc + BitVec.ofNat 16 k, r := s.r + 1 } with
      | .next t => .next { t with clkM := t.clkM + t.m, clkT := t.clkT + t.t }
      | .fault x => .fault x
      | .refused x => .refused x

/-- After an executed step T is four times M, the totals have grown by exactly M and T, and R by one modulo 128
(R18, R22, R23, R80). -/
def Obligations.StepAccounting : Prop :=
  ∀ s t : State, s.haltedOrStopped = false → step s = .next t →
    t.t = 4 * t.m ∧ t.clkM = s.clkM + t.m ∧ t.clkT = s.clkT + t.t ∧ t.r.toNat = (s.r.toNat + 1) % 128

/-- The order in which a step meets its conditions (R268): a refused opcode fetch is MemFault whatever the byte is;
then, for 0xCB, a refused fetch of the second byte; an illegal opcode is reported with no operand fetched, so no
refusal at the bytes after it matters; a legal instruction faults on its refused operand fetches. The order is the
spec's decision D25; the report is kept as log 5 says. -/
def Obligations.ConditionsInOrder : Prop :=
  ∀ s : State, s.haltedOrStopped = false →
    (s.canRead s.pc = false → step s = .fault .memFault) ∧
    (s.canRead s.pc = true → s.readValue s.pc = 0xCB#8 → s.canRead (s.pc + 1) = false → step s = .fault .memFault) ∧
    (s.canRead s.pc = true → s.readValue s.pc ∈ illegalPrimaryBytes →
      ∃ t, step s = .next t ∧ t.stop = true ∧ t.reports = s.reports ++ [⟨s.pc, s.readValue s.pc⟩]) ∧
    (s.canRead s.pc = true → 2 ≤ instrLength (s.readValue s.pc) → s.canRead (s.pc + 1) = false →
      step s = .fault .memFault) ∧
    (s.canRead s.pc = true → instrLength (s.readValue s.pc) = 3 → s.canRead (s.pc + 2) = false →
      step s = .fault .memFault)

/-- On a MEM that never faults every step ends in a next state, whatever it answers; a step that faults does so by
MemFault, on a core that is not held and whose MEM may refuse an access; no step is refused (R45, R260, R261). -/
def Obligations.FaultsOnlyFromMemory : Prop :=
  ∀ s : State,
    (s.neverRefuses = true → ∃ t, step s = .next t) ∧
    (∀ x, step s = .fault x → x = .memFault ∧ s.neverRefuses = false ∧ s.haltedOrStopped = false) ∧
    ∀ x, step s ≠ .refused x

/-! ### Memory -/

/-- What the byte accesses of MEM answer (R41, R24, R50). A read answers one byte, a write leaves the byte where the
interface keeps it and every other byte and every other field as before; either is refused as MemFault; each takes the
answer there; where the interface answers as a RAM the byte written reads back. MEM is an oracle: bound by the host or
changed by the platform between steps, it may answer a read at any address with any byte whatever was written there,
accept a write without keeping it, and refuse either; that changes nothing at the other addresses, and `init` binds
such a MEM, any CB_RES_SET with it, and changes nothing else. How MEM stands in the state, and that its RAM is kept
canonical, is the model's choice (log 2, log 3). -/
def Obligations.ReadAfterWrite : Prop :=
  ∀ (s : State) (a : Word) (v w : Byte),
    (s.canRead a = true → s.readByte a = some (s.readValue a, s.accessed [a])) ∧
    (s.canRead a = false → s.readByte a = none) ∧
    (s.canWrite a = false → s.writeByte a v = none) ∧
    (s.canWrite a = true →
      ∃ t, s.writeByte a v = some t ∧ StoredAt s t a v ∧ { t with mem := s.mem } = s.accessed [a] ∧
        (s.keepsWrite a = true → t.nextAnswer a = .ram → t.canRead a = true →
          t.readByte a = some (v, t.accessed [a])) ∧
        (s.keepsWrite a = false → t.mem = s.mem) ∧
        (Memory.wf s.mem = true → Memory.wf t.mem = true)) ∧
    let answering (next : Answer) : State := s.withMem s.mem s.regions ((a, next) :: s.answers)
    (answering (.device w)).readByte a = some (w, s) ∧
    (answering (.device w)).writeByte a v = some s ∧
    (answering .refuse).readByte a = none ∧
    (answering .refuse).writeByte a v = none ∧
    ∀ next setting,
      (∀ x, x ≠ a →
        (answering next).canRead x = s.canRead x ∧ (answering next).readValue x = s.readValue x ∧
          (answering next).canWrite x = s.canWrite x) ∧
      s.hostInit s.mem s.regions ((a, next) :: s.answers) setting = { answering next with cbResSet := setting }

/-- Two canonical memories that read alike at every address are equal data. The canonical form and what an unlisted
byte reads as are the model's choice (log 2). -/
def Obligations.CanonicalMemoriesEqual : Prop :=
  ∀ m₁ m₂ : List Host.Cell, Memory.wf m₁ = true → Memory.wf m₂ = true →
    (∀ a, a < 65536 → Memory.read m₁ a = Memory.read m₂ a) → m₁ = m₂

/-- A word access is the two byte accesses, low byte at `a`, high byte at `a + 1` modulo 65536, at 0xFFFF too (R43).
The wrap of `a + 1` is the spec's decision D7, the RAM the model's choice (log 3). -/
def Obligations.WordIsTwoBytes : Prop :=
  ∀ (s : State) (a v : Word),
    (s.canRead a = true → s.canRead (a + 1) = true →
      s.readWord a =
        some (BitVec.ofNat 16 ((s.readValue (a + 1)).toNat * 256 + (s.readValue a).toNat),
          s.accessed [a, a + 1])) ∧
    ((s.canRead a = false ∨ s.canRead (a + 1) = false) → s.readWord a = none) ∧
    (s.canWrite a = true → s.canWrite (a + 1) = true →
      ∃ t, s.writeWord a v = some t ∧ t.peek a = (if s.keepsWrite a then v.extractLsb' 0 8 else s.peek a) ∧
        t.peek (a + 1) = (if s.keepsWrite (a + 1) then v.extractLsb' 8 8 else s.peek (a + 1)) ∧
        (∀ x, x ≠ a → x ≠ a + 1 → t.peek x = s.peek x) ∧ { t with mem := s.mem } = s.accessed [a, a + 1]) ∧
    ((s.canWrite a = false ∨ s.canWrite (a + 1) = false) → s.writeWord a v = none)

/-! ### Registers and flags -/

/-- Registers and pairs: a register reads what was written and the others keep their values; a pair is
`high * 256 + low` of its halves; writing a pair writes both halves, and reads back; a write to AF zeroes the low
nibble of F (R11). -/
def Obligations.RegistersAndPairs : Prop :=
  ∀ s : State,
    (∀ (x y : R8) (v : Byte), (s.setR8 x v).r8 y = if y = x then v else s.r8 y) ∧
    s.bc.toNat = s.b.toNat * 256 + s.c.toNat ∧ s.de.toNat = s.d.toNat * 256 + s.e.toNat ∧
    s.hl.toNat = s.h.toNat * 256 + s.l.toNat ∧ s.af.toNat = s.a.toNat * 256 + s.f.toNat ∧
    ∀ v : Word,
      s.setRp .bc v = { s with b := v.extractLsb' 8 8, c := v.extractLsb' 0 8 } ∧
      s.setRp .de v = { s with d := v.extractLsb' 8 8, e := v.extractLsb' 0 8 } ∧
      s.setRp .hl v = { s with h := v.extractLsb' 8 8, l := v.extractLsb' 0 8 } ∧
      s.setRp2 .af v = { s with a := v.extractLsb' 8 8, f := v.extractLsb' 0 8 &&& 0xF0#8 } ∧
      (∀ p : Rp, (s.setRp p v).rp p = v) ∧
      (∀ p : Rp2, (s.setRp2 p v).rp2 p = if p = .af then v &&& 0xFFF0#16 else v)

/-- The flags are bits 7, 6, 5, 4 of F; `SetFlags` writes all four and zeroes the low nibble; `setFlag` writes its one
bit and changes no other bit of F, and nothing but F (R14, R16). -/
def Obligations.FlagLayout : Prop :=
  ∀ (s : State) (z n h c v : Bool) (k : Flag),
    s.getFlag .zero = s.f.getLsbD 7 ∧ s.getFlag .subtract = s.f.getLsbD 6 ∧
    s.getFlag .halfCarry = s.f.getLsbD 5 ∧ s.getFlag .carry = s.f.getLsbD 4 ∧
    (flagByte z n h c).toNat =
      (if z then 0x80 else 0) + (if n then 0x40 else 0) + (if h then 0x20 else 0) + (if c then 0x10 else 0) ∧
    s.setFlags z n h c = { s with f := flagByte z n h c } ∧
    (s.setFlag k v).getFlag k = v ∧ { s.setFlag k v with f := s.f } = s ∧
    ∀ j : Nat, j < 8 → j ≠ k.bit → (s.setFlag k v).f.getLsbD j = s.f.getLsbD j

/-- The condition codes test Z and C of the current F (R220). -/
def Obligations.ConditionsReadFlags : Prop :=
  ∀ s : State,
    (s.cond .nz = true ↔ s.f &&& 0x80#8 = 0#8) ∧ (s.cond .z = true ↔ s.f &&& 0x80#8 ≠ 0#8) ∧
    (s.cond .nc = true ↔ s.f &&& 0x10#8 = 0#8) ∧ (s.cond .c = true ↔ s.f &&& 0x10#8 ≠ 0#8)

/-! ### 8-bit arithmetic and logic -/

/-- ADD and ADC on a register, the byte at HL and an immediate: A, the four flags, cost; nothing else changes (R101 to
R106). The carry-in of ADC, and that H counts it, are the spec's decisions D24 and D18. -/
def Obligations.AddAdc : Prop :=
  ∀ (s : State) (r : R8) (n : Byte) (withCarry : Bool),
    let op : AluOp := if withCarry then .adc else .add
    let cin : Nat := if withCarry = true ∧ s.flagC = true then 1 else 0
    let effect (u : State) (b : Byte) (m : Nat) : State :=
      { u with
        a := s.a + b + BitVec.ofNat 8 cin
        f := flagByte (decide (s.a + b + BitVec.ofNat 8 cin = 0#8)) false
          (decide (15 < s.a.toNat % 16 + b.toNat % 16 + cin)) (decide (255 < s.a.toNat + b.toNat + cin))
        m := m, t := 4 * m }
    encode (Instr.aluR op r) = [opcodeOf 2 (if withCarry then 1 else 0) r.code] ∧
    encode (Instr.aluAtHl op) = [opcodeOf 2 (if withCarry then 1 else 0) 6] ∧
    encode (Instr.aluN op n) = [opcodeOf 3 (if withCarry then 1 else 0) 6, n] ∧
    exec (Instr.aluR op r) s = .next (effect s (s.r8 r) 1) ∧
    exec (Instr.aluN op n) s = .next (effect s n 2) ∧
    (s.canRead s.hl = true →
      exec (Instr.aluAtHl op) s = .next (effect (s.accessed [s.hl]) (s.readValue s.hl) 2)) ∧
    (s.canRead s.hl = false → exec (Instr.aluAtHl op) s = .fault .memFault)

/-- SUB and CP: the difference with its borrows; CP leaves A (R107 to R109, R122 to R124). That CP is SUB without the
write is the spec's decision D24. -/
def Obligations.SubCp : Prop :=
  ∀ (s : State) (r : R8) (n : Byte) (compare : Bool),
    let op : AluOp := if compare then .cp else .sub
    let effect (u : State) (b : Byte) (m : Nat) : State :=
      { u with
        a := if compare then s.a else s.a - b
        f := flagByte (decide (s.a = b)) true (decide (s.a.toNat % 16 < b.toNat % 16)) (decide (s.a.toNat < b.toNat))
        m := m, t := 4 * m }
    encode (Instr.aluR op r) = [opcodeOf 2 (if compare then 7 else 2) r.code] ∧
    encode (Instr.aluAtHl op) = [opcodeOf 2 (if compare then 7 else 2) 6] ∧
    encode (Instr.aluN op n) = [opcodeOf 3 (if compare then 7 else 2) 6, n] ∧
    exec (Instr.aluR op r) s = .next (effect s (s.r8 r) 1) ∧
    exec (Instr.aluN op n) s = .next (effect s n 2) ∧
    (s.canRead s.hl = true →
      exec (Instr.aluAtHl op) s = .next (effect (s.accessed [s.hl]) (s.readValue s.hl) 2)) ∧
    (s.canRead s.hl = false → exec (Instr.aluAtHl op) s = .fault .memFault)

/-- SBC: the incoming Carry is subtracted too and counts in both borrows (R110 to R112). The borrow-in of SBC, and
that H counts it, are the spec's decisions D24 and D18. -/
def Obligations.SbcBorrowsCarry : Prop :=
  ∀ (s : State) (r : R8) (n : Byte),
    let cin : Nat := if s.flagC then 1 else 0
    let effect (u : State) (b : Byte) (m : Nat) : State :=
      { u with
        a := s.a - b - BitVec.ofNat 8 cin
        f := flagByte (decide (s.a - b - BitVec.ofNat 8 cin = 0#8)) true
          (decide (s.a.toNat % 16 < b.toNat % 16 + cin)) (decide (s.a.toNat < b.toNat + cin))
        m := m, t := 4 * m }
    encode (Instr.aluR .sbc r) = [opcodeOf 2 3 r.code] ∧
    encode (Instr.aluAtHl .sbc) = [opcodeOf 2 3 6] ∧
    encode (Instr.aluN .sbc n) = [opcodeOf 3 3 6, n] ∧
    exec (Instr.aluR .sbc r) s = .next (effect s (s.r8 r) 1) ∧
    exec (Instr.aluN .sbc n) s = .next (effect s n 2) ∧
    (s.canRead s.hl = true →
      exec (Instr.aluAtHl .sbc) s = .next (effect (s.accessed [s.hl]) (s.readValue s.hl) 2)) ∧
    (s.canRead s.hl = false → exec (Instr.aluAtHl .sbc) s = .fault .memFault)

/-- AND, XOR and OR: A bit by bit, Z from it, N = C = 0, H = 1 for AND and 0 for the others (R113 to R121). H and C
are the spec's decision D17. -/
def Obligations.LogicOps : Prop :=
  ∀ (s : State) (r : R8) (n : Byte) (op : AluOp) (code : Nat) (res : Byte → Byte),
    (op = .and ∧ code = 4 ∧ res = (s.a &&& ·)) ∨ (op = .xor ∧ code = 5 ∧ res = (s.a ^^^ ·)) ∨
      (op = .or ∧ code = 6 ∧ res = (s.a ||| ·)) →
    let effect (u : State) (b : Byte) (m : Nat) : State :=
      { u with
        a := res b
        f := flagByte (decide (res b = 0#8)) false (decide (op = .and)) false
        m := m, t := 4 * m }
    encode (Instr.aluR op r) = [opcodeOf 2 code r.code] ∧
    encode (Instr.aluAtHl op) = [opcodeOf 2 code 6] ∧
    encode (Instr.aluN op n) = [opcodeOf 3 code 6, n] ∧
    exec (Instr.aluR op r) s = .next (effect s (s.r8 r) 1) ∧
    exec (Instr.aluN op n) s = .next (effect s n 2) ∧
    (s.canRead s.hl = true →
      exec (Instr.aluAtHl op) s = .next (effect (s.accessed [s.hl]) (s.readValue s.hl) 2)) ∧
    (s.canRead s.hl = false → exec (Instr.aluAtHl op) s = .fault .memFault)

/-- 8-bit INC and DEC, on a register and on the byte at HL: one up or down modulo 256, Z from the result, N, H from
the old low nibble, Carry kept (R125 to R128). N and H are the spec's decision D16. -/
def Obligations.IncDec8 : Prop :=
  ∀ (s : State) (r : R8) (up : Bool),
    let res (v : Byte) : Byte := if up then v + 1#8 else v - 1#8
    let flags (v : Byte) : Byte :=
      flagByte (decide (res v = 0#8)) (!up) (decide (v.toNat % 16 = if up then 15 else 0)) s.flagC
    encode (if up then Instr.incR r else Instr.decR r) = [opcodeOf 0 r.code (if up then 4 else 5)] ∧
    encode (if up then .incAtHl else .decAtHl) = [opcodeOf 0 6 (if up then 4 else 5)] ∧
    exec (if up then Instr.incR r else Instr.decR r) s =
      .next { s.setR8 r (res (s.r8 r)) with f := flags (s.r8 r), m := 1, t := 4 } ∧
    (s.canModify s.hl = true →
      ∃ t, exec (if up then .incAtHl else .decAtHl) s = .next t ∧
        StoredAt (s.accessed [s.hl]) t s.hl (res (s.readValue s.hl)) ∧
        { t with mem := s.mem } = { s.accessed [s.hl, s.hl] with f := flags (s.readValue s.hl), m := 3, t := 12 }) ∧
    (s.canModify s.hl = false →
      exec (if up then .incAtHl else .decAtHl) s = .fault .memFault)

/-- CPL, CCF and SCF (R129 to R131). -/
def Obligations.CplCcfScf : Prop :=
  ∀ s : State,
    encode .cpl = [0x2F] ∧ encode .ccf = [0x3F] ∧ encode .scf = [0x37] ∧
    exec .cpl s = .next { s with a := ~~~s.a, f := flagByte s.flagZ true true s.flagC, m := 1, t := 4 } ∧
    exec .ccf s = .next { s with f := flagByte s.flagZ false false (!s.flagC), m := 1, t := 4 } ∧
    exec .scf s = .next { s with f := flagByte s.flagZ false false true, m := 1, t := 4 }

/-- DAA, over the numbers: after an addition 0x60 and 6 are added where the digits ask for it, after a subtraction
they are taken off where the flags say so; Z from the result, N kept, H = 0, C as the rule says (R132). The
instruction is there by the spec's decision D3. -/
def Obligations.DecimalAdjust : Prop :=
  ∀ s : State,
    let a := s.a.toNat
    let high : Bool := if s.flagN then s.flagC else s.flagC || decide (0x99 < a)
    let low : Bool := if s.flagN then s.flagH else s.flagH || decide (9 < a % 16)
    let fix : Nat := (if high then 0x60 else 0) + (if low then 6 else 0)
    let res : Nat := (if s.flagN then a + 256 - fix else a + fix) % 256
    encode .daa = [0x27] ∧
    exec .daa s =
      .next { s with
        a := BitVec.ofNat 8 res, f := flagByte (decide (res = 0)) s.flagN false high, m := 1, t := 4 }

/-! ### 16-bit arithmetic -/

/-- ADD HL,rr and ADD HL,SP: HL modulo 65536, Carry from bit 15, Z, N and H kept (R140, R141). -/
def Obligations.AddHl : Prop :=
  ∀ (s : State) (p : Rp) (code : Nat),
    (p = .bc ∧ code = 0) ∨ (p = .de ∧ code = 1) ∨ (p = .hl ∧ code = 2) ∨ (p = .sp ∧ code = 3) →
    encode (Instr.addHlRp p) = [BitVec.ofNat 8 (16 * code + 9)] ∧
    ∃ t, exec (Instr.addHlRp p) s = .next t ∧
      t.hl.toNat = (s.hl.toNat + (s.rp p).toNat) % 65536 ∧
      t.f = flagByte s.flagZ s.flagN s.flagH (decide (65535 < s.hl.toNat + (s.rp p).toNat)) ∧
      { t with h := s.h, l := s.l, f := s.f } = { s with m := 2, t := 8 }

/-- INC and DEC of a pair or SP: one up or down modulo 65536, no flag (R142 to R145). -/
def Obligations.IncDec16 : Prop :=
  ∀ (s : State) (p : Rp) (code : Nat),
    (p = .bc ∧ code = 0) ∨ (p = .de ∧ code = 1) ∨ (p = .hl ∧ code = 2) ∨ (p = .sp ∧ code = 3) →
    encode (Instr.incRp p) = [BitVec.ofNat 8 (16 * code + 3)] ∧
    encode (Instr.decRp p) = [BitVec.ofNat 8 (16 * code + 11)] ∧
    (∃ t, exec (Instr.incRp p) s = .next t ∧ (t.rp p).toNat = ((s.rp p).toNat + 1) % 65536 ∧
      t = { s.setRp p (t.rp p) with m := 2, t := 8 }) ∧
    ∃ t, exec (Instr.decRp p) s = .next t ∧ (t.rp p).toNat = ((s.rp p).toNat + 65535) % 65536 ∧
      t = { s.setRp p (t.rp p) with m := 2, t := 8 }

/-- ADD SP,e and LD HL,SP+e: the signed operand added to SP modulo 65536, Z = N = 0, H and C the carries of the
unsigned addition of SP's low byte and the operand byte (R146, R201). A refused fetch of the operand byte is MemFault.
The flags are the spec's decision D19, and ADD SP,e is there by its decision D3. -/
def Obligations.SpPlusOffset : Prop :=
  ∀ (s : State) (e : Byte),
    let flags : Byte :=
      flagByte false false (decide (15 < s.sp.toNat % 16 + e.toNat % 16)) (decide (255 < s.sp.toNat % 256 + e.toNat))
    encode (.addSpE e) = [0xE8, e] ∧ encode (.ldHlSpE e) = [0xF8, e] ∧
    (s.haltedOrStopped = false → s.canRead s.pc = true → (s.readValue s.pc = 0xE8#8 ∨ s.readValue s.pc = 0xF8#8) →
      s.canRead (s.pc + 1) = false → step s = .fault .memFault) ∧
    (∃ t, exec (.addSpE e) s = .next t ∧ (t.sp.toNat : Int) = ((s.sp.toNat : Int) + e.toInt) % 65536 ∧
      t = { s with sp := t.sp, f := flags, m := 4, t := 16 }) ∧
    ∃ t, exec (.ldHlSpE e) s = .next t ∧ (t.hl.toNat : Int) = ((s.sp.toNat : Int) + e.toInt) % 65536 ∧
      t = { s with h := t.h, l := t.l, f := flags, m := 3, t := 12 }

/-! ### Rotates, shifts, bits -/

/-- RLCA, RLA, RRCA, RRA: every bit of A, Carry the bit shifted out, Z = N = H = 0 even for a zero result (R150 to
R153). Z, N and H are the spec's decision D22. -/
def Obligations.AccumulatorRotates : Prop :=
  ∀ (s : State) (i : Instr) (op : ShiftOp) (byte : Byte),
    (i = .rlca ∧ op = .rlc ∧ byte = 0x07) ∨ (i = .rla ∧ op = .rl ∧ byte = 0x17) ∨
      (i = .rrca ∧ op = .rrc ∧ byte = 0x0F) ∨ (i = .rra ∧ op = .rr ∧ byte = 0x1F) →
    encode i = [byte] ∧
    ∃ t, exec i s = .next t ∧ (∀ k : Nat, k < 8 → t.a.getLsbD k = shiftedBit op s.a s.flagC k) ∧
      t = { s with a := t.a, f := flagByte false false false (shiftedOut op s.a), m := 1, t := 4 }

/-- The CB rotates, shifts and SWAP on a register: every bit of the result, Z from it, N = H = 0, Carry the bit
shifted out (R154, R156, R158, R160, R162, R164, R166, R168). Z, N and H are the spec's decision D22. -/
def Obligations.ShiftRegister : Prop :=
  ∀ (s : State) (code : Fin 8) (r : R8),
    let op := shiftOfCode code.val
    encode (Instr.shiftR op r) = [0xCB, opcodeOf 0 code.val r.code] ∧
    ∃ res : Byte, (∀ k : Nat, k < 8 → res.getLsbD k = shiftedBit op (s.r8 r) s.flagC k) ∧
      exec (Instr.shiftR op r) s =
        .next { s.setR8 r res with
          f := flagByte (decide (res = 0#8)) false false (shiftedOut op (s.r8 r)), m := 2, t := 8 }

/-- The same on the byte at HL, read and then written there (R155, R157, R159, R161, R163, R165, R167, R169). Z, N and
H are the spec's decision D22. -/
def Obligations.ShiftMemory : Prop :=
  ∀ (s : State) (code : Fin 8),
    let op := shiftOfCode code.val
    encode (Instr.shiftAtHl op) = [0xCB, opcodeOf 0 code.val 6] ∧
    (s.canModify s.hl = true →
      ∃ (res : Byte) (t : State), (∀ k : Nat, k < 8 → res.getLsbD k = shiftedBit op (s.readValue s.hl) s.flagC k) ∧
        exec (Instr.shiftAtHl op) s = .next t ∧ StoredAt (s.accessed [s.hl]) t s.hl res ∧
        { t with mem := s.mem } =
          { s.accessed [s.hl, s.hl] with
            f := flagByte (decide (res = 0#8)) false false (shiftedOut op (s.readValue s.hl)), m := 4, t := 16 }) ∧
    (s.canModify s.hl = false → exec (Instr.shiftAtHl op) s = .fault .memFault)

/-- BIT: Z is the complement of the tested bit, N = 0, H = 1, Carry kept; the operand is not written (R170, R171). -/
def Obligations.BitTest : Prop :=
  ∀ (s : State) (b : Fin 8) (r : R8),
    encode (Instr.bitR b r) = [0xCB, opcodeOf 1 b.val r.code] ∧
    encode (Instr.bitAtHl b) = [0xCB, opcodeOf 1 b.val 6] ∧
    exec (Instr.bitR b r) s =
      .next { s with f := flagByte (!(s.r8 r).getLsbD b.val) false true s.flagC, m := 2, t := 8 } ∧
    (s.canRead s.hl = true → exec (Instr.bitAtHl b) s =
      .next { s.accessed [s.hl] with
        f := flagByte (!(s.readValue s.hl).getLsbD b.val) false true s.flagC, m := 3, t := 12 }) ∧
    (s.canRead s.hl = false → exec (Instr.bitAtHl b) s = .fault .memFault)

/-- RES b,r and SET b,r: with CB_RES_SET = implemented the one bit of the register is cleared or set and no flag
changes; by default the slot takes IllegalOpcode with the address of its 0xCB byte (two before PC, which is past the
instruction) and its second byte (R172, R174). The parameter and both of its readings are the spec's decision D4, the
reported byte D15; the report is kept as log 5 says. -/
def Obligations.ResSetRegister : Prop :=
  ∀ (s : State) (b : Fin 8) (r : R8) (value : Bool),
    let i := if value then Instr.setR b r else Instr.resR b r
    let op2 := opcodeOf (if value then 3 else 2) b.val r.code
    encode i = [0xCB, op2] ∧
    (s.cbResSet = .implemented →
      ∃ res : Byte, (∀ k : Nat, k < 8 → res.getLsbD k = if k = b.val then value else (s.r8 r).getLsbD k) ∧
        exec i s = .next { s.setR8 r res with m := 2, t := 8 }) ∧
    (s.cbResSet = .illegal →
      exec i s = .next { s with stop := true, m := 0, t := 0, reports := s.reports ++ [⟨s.pc - 2, op2⟩] })

/-- RES b,(HL) and SET b,(HL), likewise on the byte at HL (R173, R175). The parameter and both of its readings are the
spec's decision D4, the reported byte D15; the report is kept as log 5 says. -/
def Obligations.ResSetMemory : Prop :=
  ∀ (s : State) (b : Fin 8) (value : Bool),
    let i := if value then Instr.setAtHl b else Instr.resAtHl b
    let op2 := opcodeOf (if value then 3 else 2) b.val 6
    encode i = [0xCB, op2] ∧
    (s.cbResSet = .implemented → s.canModify s.hl = true →
      ∃ (res : Byte) (t : State),
        (∀ k : Nat, k < 8 → res.getLsbD k = if k = b.val then value else (s.readValue s.hl).getLsbD k) ∧
        exec i s = .next t ∧ StoredAt (s.accessed [s.hl]) t s.hl res ∧
        { t with mem := s.mem } = { s.accessed [s.hl, s.hl] with m := 4, t := 16 }) ∧
    (s.cbResSet = .implemented → s.canModify s.hl = false → exec i s = .fault .memFault) ∧
    (s.cbResSet = .illegal →
      exec i s = .next { s with stop := true, m := 0, t := 0, reports := s.reports ++ [⟨s.pc - 2, op2⟩] })

/-! ### Loads, stores, stack -/

/-- LD r,r' copies a register, r = r' included, and changes nothing else but the cost (R180). -/
def Obligations.LoadRegister : Prop :=
  ∀ (s : State) (dst src : R8),
    encode (Instr.ldRR dst src) = [opcodeOf 1 dst.code src.code] ∧
    exec (Instr.ldRR dst src) s = .next { s.setR8 dst (s.r8 src) with m := 1, t := 4 } ∧
    (dst = src → exec (Instr.ldRR dst src) s = .next { s with m := 1, t := 4 })

/-- LD r,(HL), LD A,(BC), LD A,(DE): the byte at the pair as it was before (R181, R185, R186). -/
def Obligations.LoadFromPair : Prop :=
  ∀ (s : State) (dst : R8),
    encode (Instr.ldRAtHl dst) = [opcodeOf 1 dst.code 6] ∧
    encode .ldAAtBc = [0x0A] ∧ encode .ldAAtDe = [0x1A] ∧
    (s.canRead s.hl = true →
      exec (Instr.ldRAtHl dst) s = .next { (s.accessed [s.hl]).setR8 dst (s.readValue s.hl) with m := 2, t := 8 }) ∧
    (s.canRead s.hl = false → exec (Instr.ldRAtHl dst) s = .fault .memFault) ∧
    (s.canRead s.bc = true →
      exec .ldAAtBc s = .next { s.accessed [s.bc] with a := s.readValue s.bc, m := 2, t := 8 }) ∧
    (s.canRead s.bc = false → exec .ldAAtBc s = .fault .memFault) ∧
    (s.canRead s.de = true →
      exec .ldAAtDe s = .next { s.accessed [s.de] with a := s.readValue s.de, m := 2, t := 8 }) ∧
    (s.canRead s.de = false → exec .ldAAtDe s = .fault .memFault)

/-- The stores of one byte: LD (HL),r, LD (HL),n, LD (BC),A, LD (DE),A, LD (nn),A, LDH (n),A, LD (C),A. The byte goes
to the address formed, every other byte and every register is unchanged (R182, R184, R187, R188, R195, R197,
R199). -/
def Obligations.StoreByte : Prop :=
  ∀ (s : State) (src : R8) (n : Byte) (nn : Word) (i : Instr) (bytes : List Byte) (a : Word) (v : Byte) (m : Nat),
    (i = Instr.ldAtHlR src ∧ bytes = [opcodeOf 1 6 src.code] ∧ a = s.hl ∧ v = s.r8 src ∧ m = 2) ∨
    (i = .ldAtHlN n ∧ bytes = [0x36, n] ∧ a = s.hl ∧ v = n ∧ m = 3) ∨
    (i = .ldAtBcA ∧ bytes = [0x02] ∧ a = s.bc ∧ v = s.a ∧ m = 2) ∨
    (i = .ldAtDeA ∧ bytes = [0x12] ∧ a = s.de ∧ v = s.a ∧ m = 2) ∨
    (i = .ldAtNnA nn ∧ bytes = [0xEA, loByte nn, hiByte nn] ∧ a = nn ∧ v = s.a ∧ m = 4) ∨
    (i = .ldhAtNA n ∧ bytes = [0xE0, n] ∧ a.toNat = 0xFF00 + n.toNat ∧ v = s.a ∧ m = 3) ∨
    (i = .ldAtCA ∧ bytes = [0xE2] ∧ a.toNat = 0xFF00 + s.c.toNat ∧ v = s.a ∧ m = 2) →
    encode i = bytes ∧
    (s.canWrite a = true →
      ∃ t, exec i s = .next t ∧ StoredAt s t a v ∧
        { t with mem := s.mem } = { s.accessed [a] with m := m, t := 4 * m }) ∧
    (s.canWrite a = false → exec i s = .fault .memFault)

/-- The accumulator loads from an address: LD A,(nn), LDH A,(n), LD A,(C) (R196, R198, R200). -/
def Obligations.LoadAbsolute : Prop :=
  ∀ (s : State) (n : Byte) (nn : Word) (i : Instr) (bytes : List Byte) (a : Word) (m : Nat),
    (i = .ldAAtNn nn ∧ bytes = [0xFA, loByte nn, hiByte nn] ∧ a = nn ∧ m = 4) ∨
    (i = .ldhAAtN n ∧ bytes = [0xF0, n] ∧ a.toNat = 0xFF00 + n.toNat ∧ m = 3) ∨
    (i = .ldAAtC ∧ bytes = [0xF2] ∧ a.toNat = 0xFF00 + s.c.toNat ∧ m = 2) →
    encode i = bytes ∧
    (s.canRead a = true → exec i s = .next { s.accessed [a] with a := s.readValue a, m := m, t := 4 * m }) ∧
    (s.canRead a = false → exec i s = .fault .memFault)

/-- LD (HL+),A, LD A,(HL+), LD (HL-),A, LD A,(HL-): the access uses HL as it was, then HL steps modulo 65536 with the
carry or borrow between L and H; no flag (R189 to R192). -/
def Obligations.LoadStepHl : Prop :=
  ∀ (s : State) (up : Bool),
    let stepped (u : State) : Prop :=
      u.hl.toNat = (s.hl.toNat + if up then 1 else 65535) % 65536 ∧
      { u with mem := s.mem, h := s.h, l := s.l, a := s.a } = { s.accessed [s.hl] with m := 2, t := 8 }
    encode (if up then .ldAtHlIncA else .ldAtHlDecA) = [if up then 0x22 else 0x32] ∧
    encode (if up then .ldAAtHlInc else .ldAAtHlDec) = [if up then 0x2A else 0x3A] ∧
    (s.canWrite s.hl = true →
      ∃ t, exec (if up then .ldAtHlIncA else .ldAtHlDecA) s = .next t ∧ StoredAt s t s.hl s.a ∧ t.a = s.a ∧
        stepped t) ∧
    (s.canWrite s.hl = false → exec (if up then .ldAtHlIncA else .ldAtHlDecA) s = .fault .memFault) ∧
    (s.canRead s.hl = true →
      ∃ t, exec (if up then .ldAAtHlInc else .ldAAtHlDec) s = .next t ∧ t.a = s.readValue s.hl ∧ t.mem = s.mem ∧
        stepped t) ∧
    (s.canRead s.hl = false → exec (if up then .ldAAtHlInc else .ldAAtHlDec) s = .fault .memFault)

/-- The immediate loads LD r,n, LD rr,nn and LD SP,nn; the low byte of nn comes first (R183, R193, R194). -/
def Obligations.LoadImmediate : Prop :=
  ∀ (s : State) (dst : R8) (n : Byte) (nn : Word),
    encode (Instr.ldRN dst n) = [opcodeOf 0 dst.code 6, n] ∧
    encode (Instr.ldRpNn .bc nn) = [0x01, loByte nn, hiByte nn] ∧
    encode (Instr.ldRpNn .de nn) = [0x11, loByte nn, hiByte nn] ∧
    encode (Instr.ldRpNn .hl nn) = [0x21, loByte nn, hiByte nn] ∧
    encode (Instr.ldRpNn .sp nn) = [0x31, loByte nn, hiByte nn] ∧
    exec (Instr.ldRN dst n) s = .next { s.setR8 dst n with m := 2, t := 8 } ∧
    exec (Instr.ldRpNn .bc nn) s = .next { s with b := hiByte nn, c := loByte nn, m := 3, t := 12 } ∧
    exec (Instr.ldRpNn .de nn) s = .next { s with d := hiByte nn, e := loByte nn, m := 3, t := 12 } ∧
    exec (Instr.ldRpNn .hl nn) s = .next { s with h := hiByte nn, l := loByte nn, m := 3, t := 12 } ∧
    exec (Instr.ldRpNn .sp nn) s = .next { s with sp := nn, m := 3, t := 12 }

/-- LD SP,HL, and LD (nn),SP which stores SP low byte first at nn and nn + 1 modulo 65536 (R202, R203). Both
instructions are there by the spec's decision D3. -/
def Obligations.StackPointerLoads : Prop :=
  ∀ (s : State) (nn : Word),
    encode .ldSpHl = [0xF9] ∧ encode (.ldAtNnSp nn) = [0x08, loByte nn, hiByte nn] ∧
    exec .ldSpHl s = .next { s with sp := s.hl, m := 2, t := 8 } ∧
    (s.canWrite nn = true → s.canWrite (nn + 1) = true →
      ∃ t, exec (.ldAtNnSp nn) s = .next t ∧
        t.peek nn = (if s.keepsWrite nn then loByte s.sp else s.peek nn) ∧
        t.peek (nn + 1) = (if s.keepsWrite (nn + 1) then hiByte s.sp else s.peek (nn + 1)) ∧
        (∀ x, x ≠ nn → x ≠ nn + 1 → t.peek x = s.peek x) ∧
        { t with mem := s.mem } = { s.accessed [nn, nn + 1] with m := 5, t := 20 }) ∧
    ((s.canWrite nn = false ∨ s.canWrite (nn + 1) = false) → exec (.ldAtNnSp nn) s = .fault .memFault)

/-- PUSH: the pair's high byte at SP - 1 and low byte at SP - 2 modulo 65536, SP two lower, the pair and F unchanged
(R204, R205). -/
def Obligations.PushStoresPair : Prop :=
  ∀ (s : State) (p : Rp2) (code : Nat),
    (p = .bc ∧ code = 0) ∨ (p = .de ∧ code = 1) ∨ (p = .hl ∧ code = 2) ∨ (p = .af ∧ code = 3) →
    encode (Instr.push p) = [BitVec.ofNat 8 (0xC5 + 16 * code)] ∧
    (s.canPush = true →
      ∃ t, exec (Instr.push p) s = .next t ∧ PushedAt s t (s.rp2 p) ∧
        { t with mem := s.mem } = { s.accessed [s.sp - 1, s.sp - 2] with sp := s.sp - 2, m := 3, t := 12 }) ∧
    (s.canPush = false → exec (Instr.push p) s = .fault .memFault)

/-- POP: the low register from the byte at SP, the high register from the byte at SP + 1 modulo 65536, SP two higher;
POP AF drops the low nibble of the byte for F (R206, R207). The mask of POP AF is the spec's decision D28. -/
def Obligations.PopLoadsPair : Prop :=
  ∀ (s : State) (p : Rp2) (code : Nat),
    (p = .bc ∧ code = 0) ∨ (p = .de ∧ code = 1) ∨ (p = .hl ∧ code = 2) ∨ (p = .af ∧ code = 3) →
    let lo := s.readValue s.sp
    let hi := s.readValue (s.sp + 1)
    encode (Instr.pop p) = [BitVec.ofNat 8 (0xC1 + 16 * code)] ∧
    (s.canPop = true →
      exec (Instr.pop p) s =
        .next
          (match p with
          | .bc => { s.accessed [s.sp, s.sp + 1] with b := hi, c := lo, sp := s.sp + 2, m := 3, t := 12 }
          | .de => { s.accessed [s.sp, s.sp + 1] with d := hi, e := lo, sp := s.sp + 2, m := 3, t := 12 }
          | .hl => { s.accessed [s.sp, s.sp + 1] with h := hi, l := lo, sp := s.sp + 2, m := 3, t := 12 }
          | .af => { s.accessed [s.sp, s.sp + 1] with a := hi, f := lo &&& 0xF0#8, sp := s.sp + 2, m := 3, t := 12 })) ∧
    (s.canPop = false → exec (Instr.pop p) s = .fault .memFault)

/-! ### Control flow -/

/-- JP nn, JP cc,nn taken and not taken, JP (HL) (R221 to R223). JP (HL) is there by the spec's decision D3, the two
costs of JP cc,nn are D33. -/
def Obligations.Jumps : Prop :=
  ∀ (s : State) (cc : Cond) (nn : Word),
    encode (.jpNn nn) = [0xC3, loByte nn, hiByte nn] ∧ encode .jpHl = [0xE9] ∧
    encode (Instr.jpIf .nz nn) = [0xC2, loByte nn, hiByte nn] ∧
    encode (Instr.jpIf .z nn) = [0xCA, loByte nn, hiByte nn] ∧
    encode (Instr.jpIf .nc nn) = [0xD2, loByte nn, hiByte nn] ∧
    encode (Instr.jpIf .c nn) = [0xDA, loByte nn, hiByte nn] ∧
    exec (.jpNn nn) s = .next { s with pc := nn, m := 4, t := 16 } ∧
    (s.cond cc = true → exec (Instr.jpIf cc nn) s = .next { s with pc := nn, m := 4, t := 16 }) ∧
    (s.cond cc = false → exec (Instr.jpIf cc nn) s = .next { s with m := 3, t := 12 }) ∧
    exec .jpHl s = .next { s with pc := s.hl, m := 1, t := 4 }

/-- JR e, JR cc,e and DJNZ e: the displacement is signed and added to the PC past the operand, modulo 65536; DJNZ
decrements B first and touches no flag (R224 to R226). The slot of DJNZ and its cost are the spec's decisions D2 and
D32, the two costs of JR cc,e are D33. -/
def Obligations.RelativeJumps : Prop :=
  ∀ (s : State) (cc : Cond) (e : Byte),
    encode (.jrE e) = [0x18, e] ∧ encode (.djnzE e) = [0x10, e] ∧
    encode (Instr.jrIf .nz e) = [0x20, e] ∧ encode (Instr.jrIf .z e) = [0x28, e] ∧
    encode (Instr.jrIf .nc e) = [0x30, e] ∧ encode (Instr.jrIf .c e) = [0x38, e] ∧
    ∃ target : Word, (target.toNat : Int) = ((s.pc.toNat : Int) + e.toInt) % 65536 ∧
      exec (.jrE e) s = .next { s with pc := target, m := 3, t := 12 } ∧
      (s.cond cc = true → exec (Instr.jrIf cc e) s = .next { s with pc := target, m := 3, t := 12 }) ∧
      (s.cond cc = false → exec (Instr.jrIf cc e) s = .next { s with m := 2, t := 8 }) ∧
      (s.b ≠ 1#8 → exec (.djnzE e) s = .next { s with b := s.b - 1#8, pc := target, m := 3, t := 12 }) ∧
      (s.b = 1#8 → exec (.djnzE e) s = .next { s with b := 0#8, m := 2, t := 8 })

/-- CALL nn and CALL cc,nn: the PC past the operand is pushed, then PC is nn; not taken, only the cost; no flag (R227,
R228). The byte order of the push is the spec's decision D8, the two costs of CALL cc,nn are D33. -/
def Obligations.Calls : Prop :=
  ∀ (s : State) (cc : Cond) (nn : Word),
    let called (r : Res) : Prop :=
      ∃ t, r = .next t ∧ PushedAt s t s.pc ∧
        { t with mem := s.mem } = { s.accessed [s.sp - 1, s.sp - 2] with sp := s.sp - 2, pc := nn, m := 6, t := 24 }
    encode (.callNn nn) = [0xCD, loByte nn, hiByte nn] ∧
    encode (Instr.callIf .nz nn) = [0xC4, loByte nn, hiByte nn] ∧
    encode (Instr.callIf .z nn) = [0xCC, loByte nn, hiByte nn] ∧
    encode (Instr.callIf .nc nn) = [0xD4, loByte nn, hiByte nn] ∧
    encode (Instr.callIf .c nn) = [0xDC, loByte nn, hiByte nn] ∧
    (s.canPush = true → called (exec (.callNn nn) s)) ∧
    (s.canPush = false → exec (.callNn nn) s = .fault .memFault) ∧
    (s.cond cc = true → s.canPush = true → called (exec (Instr.callIf cc nn) s)) ∧
    (s.cond cc = true → s.canPush = false → exec (Instr.callIf cc nn) s = .fault .memFault) ∧
    (s.cond cc = false → exec (Instr.callIf cc nn) s = .next { s with m := 3, t := 12 })

/-- RET, RET cc and RETI: PC is the word at SP, SP two higher; RETI sets IME as well; not taken, only the cost; no
flag (R229 to R231). The byte order of the pop is the spec's decision D8, the two costs of RET cc are D33. -/
def Obligations.Returns : Prop :=
  ∀ (s : State) (cc : Cond),
    encode .ret = [0xC9] ∧ encode .reti = [0xD9] ∧
    encode (Instr.retIf .nz) = [0xC0] ∧ encode (Instr.retIf .z) = [0xC8] ∧
    encode (Instr.retIf .nc) = [0xD0] ∧ encode (Instr.retIf .c) = [0xD8] ∧
    (s.canPop = true →
      exec .ret s = .next { s.accessed [s.sp, s.sp + 1] with pc := s.stackTop, sp := s.sp + 2, m := 4, t := 16 } ∧
      exec .reti s =
        .next { s.accessed [s.sp, s.sp + 1] with pc := s.stackTop, sp := s.sp + 2, ime := true, m := 4, t := 16 } ∧
      (s.cond cc = true →
        exec (Instr.retIf cc) s =
          .next { s.accessed [s.sp, s.sp + 1] with pc := s.stackTop, sp := s.sp + 2, m := 5, t := 20 })) ∧
    (s.canPop = false →
      exec .ret s = .fault .memFault ∧ exec .reti s = .fault .memFault ∧
      (s.cond cc = true → exec (Instr.retIf cc) s = .fault .memFault)) ∧
    (s.cond cc = false → exec (Instr.retIf cc) s = .next { s with m := 2, t := 8 })

/-- RST t: the PC past the opcode is pushed, then PC is 8 times the vector number; IME and F unchanged (R232). The
byte order of the push is the spec's decision D8. -/
def Obligations.Restarts : Prop :=
  ∀ (s : State) (y : Fin 8),
    encode (Instr.rst y) = [opcodeOf 3 y.val 7] ∧
    (s.canPush = true →
      ∃ t, exec (Instr.rst y) s = .next t ∧ PushedAt s t s.pc ∧ t.pc.toNat = 8 * y.val ∧
        { t with mem := s.mem } = { s.accessed [s.sp - 1, s.sp - 2] with sp := s.sp - 2, pc := t.pc, m := 4, t := 16 }) ∧
    (s.canPush = false → exec (Instr.rst y) s = .fault .memFault)

/-- NOP, HALT, DI, EI; after HALT every further step is held (R233 to R236). NOP is there by the spec's decision D3;
that HALT holds the core and that EI acts at once are D27 and D12. -/
def Obligations.MachineControl : Prop :=
  ∀ s : State,
    encode .nop = [0x00] ∧ encode .halt = [0x76] ∧ encode .di = [0xF3] ∧ encode .ei = [0xFB] ∧
    exec .nop s = .next { s with m := 1, t := 4 } ∧
    exec .di s = .next { s with ime := false, m := 1, t := 4 } ∧
    exec .ei s = .next { s with ime := true, m := 1, t := 4 } ∧
    ∃ t, exec .halt s = .next t ∧ t = { s with halt := true, m := 1, t := 4 } ∧ step t = .next t

/-! ### The exception and the host -/

/-- The illegal-opcode handler: at the eleven primary slots, the instruction and the step that runs it; at the CB
slots from 0x80 up while CB_RES_SET is `illegal`, the step. Only `stop`, M, T, the report, and what the fetch of the
byte or the two bytes changes (PC, R) are written; the totals are not (R84, R264). M = T = 0 and the byte reported for
a CB slot are the spec's decision D15; the report is kept as log 5 says. -/
def Obligations.IllegalOpcodeTaken : Prop :=
  (∀ (s : State) (i : Instr) (byte : Byte),
    (i, byte) ∈ [(.illegalD3, 0xD3#8), (.illegalDB, 0xDB#8), (.illegalDD, 0xDD#8), (.illegalE3, 0xE3#8),
      (.illegalE4, 0xE4#8), (.illegalEB, 0xEB#8), (.illegalEC, 0xEC#8), (.illegalED, 0xED#8),
      (.illegalF4, 0xF4#8), (.illegalFC, 0xFC#8), (.illegalFD, 0xFD#8)] →
    encode i = [byte] ∧
    exec i s = .next { s with stop := true, m := 0, t := 0, reports := s.reports ++ [⟨s.pc - 1, byte⟩] } ∧
    (s.haltedOrStopped = false → s.canRead s.pc = true → s.readValue s.pc = byte →
      step s = .next { s.accessed [s.pc] with
        pc := s.pc + 1, r := s.r + 1, stop := true, m := 0, t := 0, reports := s.reports ++ [⟨s.pc, byte⟩] })) ∧
  ∀ (s : State) (op2 : Byte),
    s.haltedOrStopped = false → s.canRead s.pc = true → s.canRead (s.pc + 1) = true →
    s.readValue s.pc = 0xCB#8 → s.readValue (s.pc + 1) = op2 → 0x80 ≤ op2.toNat → s.cbResSet = .illegal →
    step s = .next { s.accessed [s.pc, s.pc + 1] with
      pc := s.pc + 2, r := s.r + 1, stop := true, m := 0, t := 0, reports := s.reports ++ [⟨s.pc, op2⟩] }

/-- The causes of IllegalOpcode, exactly: a step reports one when, and only when, the opcode byte is one of the
eleven, or it is 0xCB with a second byte of 0x80 or more while CB_RES_SET is `illegal`; it then reports one pair, the
address of the first byte and the byte that has no handler, and sets `stop` (R262, R263). The set of slots is the
spec's decisions D5 and D4, the byte reported for a CB slot D15; the report is kept as log 5 says. -/
def Obligations.IllegalOpcodeCauses : Prop :=
  ∀ s t : State, s.haltedOrStopped = false → step s = .next t →
    let b0 := s.readValue s.pc
    let b1 := s.readValue (s.pc + 1)
    let primary := b0 ∈ illegalPrimaryBytes
    let extended := b0 = 0xCB#8 ∧ 0x80 ≤ b1.toNat ∧ s.cbResSet = .illegal
    (primary → t.reports = s.reports ++ [⟨s.pc, b0⟩] ∧ t.stop = true) ∧
    (extended → t.reports = s.reports ++ [⟨s.pc, b1⟩] ∧ t.stop = true) ∧
    (¬primary → ¬extended → t.reports = s.reports ∧ t.stop = false)

/-- What is pushed is popped: PUSH rr; POP rr restores the pair and SP (for AF when F's low nibble is zero), and CALL
followed by RET comes back behind the CALL with SP restored, at every SP, on memory that answers (R208). That memory
returns what was written is the model's choice (log 3). -/
def Obligations.StackRoundTrips : Prop :=
  ∀ (s : State) (p : Rp2) (nn : Word),
    s.answers = [] → s.canPush = true → s.keepsWrite (s.sp - 1) = true → s.keepsWrite (s.sp - 2) = true →
    s.canRead (s.sp - 1) = true → s.canRead (s.sp - 2) = true →
    ((p = .af → s.f &&& 0x0F#8 = 0#8) →
      ∃ t u, exec (Instr.push p) s = .next t ∧ exec (Instr.pop p) t = .next u ∧ u.rp2 p = s.rp2 p ∧ u.sp = s.sp) ∧
    ∃ t u, exec (.callNn nn) s = .next t ∧ t.pc = nn ∧ exec .ret t = .next u ∧ u.pc = s.pc ∧ u.sp = s.sp

/-- `InterruptEntry(v)`: nothing on a stopped core; else IME and `halt` are cleared, PC is pushed, PC is the vector, M
= 4, T = 16, both added to the totals; R is not incremented and IME is not tested (R267). Clearing IME and `halt`, the
cost and the guard on `stop` are the spec's decision D34. -/
def Obligations.InterruptEntryEffect : Prop :=
  ∀ (s : State) (v : InterruptVector) (address : Nat),
    (v = .v40 ∧ address = 0x40) ∨ (v = .v48 ∧ address = 0x48) ∨ (v = .v50 ∧ address = 0x50) ∨
      (v = .v58 ∧ address = 0x58) ∨ (v = .v60 ∧ address = 0x60) →
    (s.stop = true → s.interruptEntry v = .next s) ∧
    (s.stop = false → s.canPush = true →
      ∃ t, s.interruptEntry v = .next t ∧ PushedAt s t s.pc ∧
        { t with mem := s.mem } =
          { s.accessed [s.sp - 1, s.sp - 2] with
            halt := false, ime := false, sp := s.sp - 2, pc := BitVec.ofNat 16 address, m := 4, t := 16,
            clkM := s.clkM + 4, clkT := s.clkT + 16 }) ∧
    (s.stop = false → s.canPush = false → s.interruptEntry v = .fault .memFault)

/-- `HostResume()` clears `stop` and `HostStop()` sets it, nothing else; after an illegal opcode the resumed core
fetches at the address behind the illegal byte or bytes; `reset()` clears `stop` too (R265, R276). `HostResume` and
`HostStop` are the spec's decisions D29 and D30. -/
def Obligations.ResumeAndStop : Prop :=
  ∀ s : State,
    s.hostResume = { s with stop := false } ∧ s.hostStop = { s with stop := true } ∧
    step s.hostStop = .next s.hostStop ∧ (∀ init, (s.hostReset init).stop = false) ∧
    (s.haltedOrStopped = false → s.canRead s.pc = true → s.readValue s.pc ∈ illegalPrimaryBytes →
      ∃ t, step s = .next t ∧ t.hostResume.pc = s.pc + 1 ∧ t.hostResume.haltedOrStopped = false) ∧
    (s.haltedOrStopped = false → s.canRead s.pc = true → s.canRead (s.pc + 1) = true → s.readValue s.pc = 0xCB#8 →
      0x80 ≤ (s.readValue (s.pc + 1)).toNat → s.cbResSet = .illegal →
      ∃ t, step s = .next t ∧ t.hostResume.pc = s.pc + 2 ∧ t.hostResume.haltedOrStopped = false)

/-! ### Rules of the whole machine -/

/-- Every instruction leaves every byte of the RAM as it was but those at the addresses R46 lists for it, formed as
its meaning forms them, and takes MEM's answers to exactly the accesses R46 and R49 say: a read at each load address,
a write at each store address. That no instruction changes the regions of MEM is the model's choice, log 3 (nearest
rule R55), and that none changes CB_RES_SET is its choice, log 4 (nearest rule R282). -/
def Obligations.MemoryFrame : Prop :=
  ∀ (i : Instr) (s t : State), exec i s = .next t →
    (∀ a, a ∉ storeAddresses i s → t.peek a = s.peek a) ∧
    (storeAddresses i s = [] → t.mem = s.mem) ∧
    t.answers = (s.accessed (loadAddresses i s ++ storeAddresses i s)).answers ∧
    t.regions = s.regions ∧ t.cbResSet = s.cbResSet

/-- The control bits have only the writers R19, R20 and R21 name: IME is written by EI, DI and RETI alone, `halt` is
set by HALT alone and cleared by no instruction, `stop` is set by the illegal-opcode handler alone and cleared by no
instruction. -/
def Obligations.ControlBitWriters : Prop :=
  ∀ (i : Instr) (s t : State), exec i s = .next t →
    t.ime = (if i = .di then false else if i = .ei ∨ i = .reti then true else s.ime) ∧
    t.halt = (s.halt || decide (i = .halt)) ∧
    t.stop = (s.stop || isIllegal i s.cbResSet)

/-- Every instruction leaves unchanged each flag that R31 marks '-' for it; so no load (but LD HL,SP+e and POP AF), no
store, jump, call or return changes F. -/
def Obligations.FlagFrame : Prop :=
  ∀ (i : Instr) (s t : State), s.f &&& 0x0F#8 = 0#8 → exec i s = .next t →
    (t.f ^^^ s.f) &&& ~~~(flagMask i) = 0#8

/-- No instruction reads M, T, CLK_M, CLK_T or R: from states that differ only in these, every instruction gives
outcomes that differ only in CLK_M, CLK_T and R, each kept as it was (R87, R18). -/
def Obligations.CountersNeverRead : Prop :=
  ∀ (i : Instr) (s : State) (m t clkM clkT : Nat) (r : BitVec 7),
    exec i { s with m := m, t := t, clkM := clkM, clkT := clkT, r := r } =
      match exec i s with
      | .next u => .next { u with clkM := clkM, clkT := clkT, r := r }
      | .fault x => .fault x
      | .refused x => .refused x

/-- A conditional branch costs more T-states taken than not taken: 4 more for JR cc, JP cc and DJNZ, 12 more for CALL
cc and RET cc (R288). The increments are the spec's decisions D32 and D33. -/
def Obligations.TakenCostsMore : Prop :=
  ∀ (s₁ s₂ t₁ t₂ : State) (cc : Cond) (nn : Word) (e : Byte),
    (s₁.cond cc = true → s₂.cond cc = false →
      (exec (Instr.jrIf cc e) s₁ = .next t₁ → exec (Instr.jrIf cc e) s₂ = .next t₂ → t₁.t = t₂.t + 4) ∧
      (exec (Instr.jpIf cc nn) s₁ = .next t₁ → exec (Instr.jpIf cc nn) s₂ = .next t₂ → t₁.t = t₂.t + 4) ∧
      (exec (Instr.callIf cc nn) s₁ = .next t₁ → exec (Instr.callIf cc nn) s₂ = .next t₂ → t₁.t = t₂.t + 12) ∧
      (exec (Instr.retIf cc) s₁ = .next t₁ → exec (Instr.retIf cc) s₂ = .next t₂ → t₁.t = t₂.t + 12)) ∧
    (s₁.b ≠ 1#8 → s₂.b = 1#8 → exec (.djnzE e) s₁ = .next t₁ → exec (.djnzE e) s₂ = .next t₂ → t₁.t = t₂.t + 4)
end

