-- ==== Sys2Proof/Laws/State.lean ====
section
/-! SUPPORT. The state's updates, one lemma per field per update, so that no proof unfolds a record update. The views
and accesses over an update follow from them. -/

namespace Sys2Proof.Machine

theorem State.setR8_same (s : State) (x : R8) (v : Byte) : (s.setR8 x v).r8 x = v := by cases x <;> rfl

theorem State.setR8_other (s : State) {x y : R8} (v : Byte) (h : y ≠ x) : (s.setR8 x v).r8 y = s.r8 y := by
  cases x <;> cases y <;> first | rfl | exact absurd rfl h

theorem State.setR8_self (s : State) (x : R8) : s.setR8 x (s.r8 x) = s := by cases x <;> rfl

@[simp] theorem State.setR8_f (s : State) (x : R8) (v : Byte) : (s.setR8 x v).f = s.f := by cases x <;> rfl
@[simp] theorem State.setR8_pc (s : State) (x : R8) (v : Byte) : (s.setR8 x v).pc = s.pc := by cases x <;> rfl
@[simp] theorem State.setR8_sp (s : State) (x : R8) (v : Byte) : (s.setR8 x v).sp = s.sp := by cases x <;> rfl
@[simp] theorem State.setR8_r (s : State) (x : R8) (v : Byte) : (s.setR8 x v).r = s.r := by cases x <;> rfl
@[simp] theorem State.setR8_ime (s : State) (x : R8) (v : Byte) : (s.setR8 x v).ime = s.ime := by cases x <;> rfl
@[simp] theorem State.setR8_halt (s : State) (x : R8) (v : Byte) : (s.setR8 x v).halt = s.halt := by cases x <;> rfl
@[simp] theorem State.setR8_stop (s : State) (x : R8) (v : Byte) : (s.setR8 x v).stop = s.stop := by cases x <;> rfl
@[simp] theorem State.setR8_m (s : State) (x : R8) (v : Byte) : (s.setR8 x v).m = s.m := by cases x <;> rfl
@[simp] theorem State.setR8_t (s : State) (x : R8) (v : Byte) : (s.setR8 x v).t = s.t := by cases x <;> rfl
@[simp] theorem State.setR8_clkM (s : State) (x : R8) (v : Byte) : (s.setR8 x v).clkM = s.clkM := by cases x <;> rfl
@[simp] theorem State.setR8_clkT (s : State) (x : R8) (v : Byte) : (s.setR8 x v).clkT = s.clkT := by cases x <;> rfl
@[simp] theorem State.setR8_mem (s : State) (x : R8) (v : Byte) : (s.setR8 x v).mem = s.mem := by cases x <;> rfl
@[simp] theorem State.setR8_regions (s : State) (x : R8) (v : Byte) : (s.setR8 x v).regions = s.regions := by cases x <;> rfl
@[simp] theorem State.setR8_answers (s : State) (x : R8) (v : Byte) : (s.setR8 x v).answers = s.answers := by cases x <;> rfl
@[simp] theorem State.setR8_cbResSet (s : State) (x : R8) (v : Byte) : (s.setR8 x v).cbResSet = s.cbResSet := by cases x <;> rfl
@[simp] theorem State.setR8_reports (s : State) (x : R8) (v : Byte) : (s.setR8 x v).reports = s.reports := by cases x <;> rfl

@[simp] theorem State.setRp_f (s : State) (p : Rp) (v : Word) : (s.setRp p v).f = s.f := by cases p <;> rfl
@[simp] theorem State.setRp_pc (s : State) (p : Rp) (v : Word) : (s.setRp p v).pc = s.pc := by cases p <;> rfl
@[simp] theorem State.setRp_r (s : State) (p : Rp) (v : Word) : (s.setRp p v).r = s.r := by cases p <;> rfl
@[simp] theorem State.setRp_ime (s : State) (p : Rp) (v : Word) : (s.setRp p v).ime = s.ime := by cases p <;> rfl
@[simp] theorem State.setRp_halt (s : State) (p : Rp) (v : Word) : (s.setRp p v).halt = s.halt := by cases p <;> rfl
@[simp] theorem State.setRp_stop (s : State) (p : Rp) (v : Word) : (s.setRp p v).stop = s.stop := by cases p <;> rfl
@[simp] theorem State.setRp_m (s : State) (p : Rp) (v : Word) : (s.setRp p v).m = s.m := by cases p <;> rfl
@[simp] theorem State.setRp_t (s : State) (p : Rp) (v : Word) : (s.setRp p v).t = s.t := by cases p <;> rfl
@[simp] theorem State.setRp_clkM (s : State) (p : Rp) (v : Word) : (s.setRp p v).clkM = s.clkM := by cases p <;> rfl
@[simp] theorem State.setRp_clkT (s : State) (p : Rp) (v : Word) : (s.setRp p v).clkT = s.clkT := by cases p <;> rfl
@[simp] theorem State.setRp_mem (s : State) (p : Rp) (v : Word) : (s.setRp p v).mem = s.mem := by cases p <;> rfl
@[simp] theorem State.setRp_regions (s : State) (p : Rp) (v : Word) : (s.setRp p v).regions = s.regions := by cases p <;> rfl
@[simp] theorem State.setRp_answers (s : State) (p : Rp) (v : Word) : (s.setRp p v).answers = s.answers := by cases p <;> rfl
@[simp] theorem State.setRp_cbResSet (s : State) (p : Rp) (v : Word) : (s.setRp p v).cbResSet = s.cbResSet := by cases p <;> rfl
@[simp] theorem State.setRp_reports (s : State) (p : Rp) (v : Word) : (s.setRp p v).reports = s.reports := by cases p <;> rfl

@[simp] theorem State.setRp2_pc (s : State) (p : Rp2) (v : Word) : (s.setRp2 p v).pc = s.pc := by cases p <;> rfl
@[simp] theorem State.setRp2_sp (s : State) (p : Rp2) (v : Word) : (s.setRp2 p v).sp = s.sp := by cases p <;> rfl
@[simp] theorem State.setRp2_r (s : State) (p : Rp2) (v : Word) : (s.setRp2 p v).r = s.r := by cases p <;> rfl
@[simp] theorem State.setRp2_ime (s : State) (p : Rp2) (v : Word) : (s.setRp2 p v).ime = s.ime := by cases p <;> rfl
@[simp] theorem State.setRp2_halt (s : State) (p : Rp2) (v : Word) : (s.setRp2 p v).halt = s.halt := by cases p <;> rfl
@[simp] theorem State.setRp2_stop (s : State) (p : Rp2) (v : Word) : (s.setRp2 p v).stop = s.stop := by cases p <;> rfl
@[simp] theorem State.setRp2_m (s : State) (p : Rp2) (v : Word) : (s.setRp2 p v).m = s.m := by cases p <;> rfl
@[simp] theorem State.setRp2_t (s : State) (p : Rp2) (v : Word) : (s.setRp2 p v).t = s.t := by cases p <;> rfl
@[simp] theorem State.setRp2_clkM (s : State) (p : Rp2) (v : Word) : (s.setRp2 p v).clkM = s.clkM := by cases p <;> rfl
@[simp] theorem State.setRp2_clkT (s : State) (p : Rp2) (v : Word) : (s.setRp2 p v).clkT = s.clkT := by cases p <;> rfl
@[simp] theorem State.setRp2_mem (s : State) (p : Rp2) (v : Word) : (s.setRp2 p v).mem = s.mem := by cases p <;> rfl
@[simp] theorem State.setRp2_regions (s : State) (p : Rp2) (v : Word) : (s.setRp2 p v).regions = s.regions := by cases p <;> rfl
@[simp] theorem State.setRp2_answers (s : State) (p : Rp2) (v : Word) : (s.setRp2 p v).answers = s.answers := by cases p <;> rfl
@[simp] theorem State.setRp2_cbResSet (s : State) (p : Rp2) (v : Word) : (s.setRp2 p v).cbResSet = s.cbResSet := by cases p <;> rfl
@[simp] theorem State.setRp2_reports (s : State) (p : Rp2) (v : Word) : (s.setRp2 p v).reports = s.reports := by cases p <;> rfl

@[simp] theorem State.setHl_a (s : State) (v : Word) : (s.setHl v).a = s.a := rfl
@[simp] theorem State.setHl_b (s : State) (v : Word) : (s.setHl v).b = s.b := rfl
@[simp] theorem State.setHl_c (s : State) (v : Word) : (s.setHl v).c = s.c := rfl
@[simp] theorem State.setHl_d (s : State) (v : Word) : (s.setHl v).d = s.d := rfl
@[simp] theorem State.setHl_e (s : State) (v : Word) : (s.setHl v).e = s.e := rfl
@[simp] theorem State.setHl_h (s : State) (v : Word) : (s.setHl v).h = hiByte v := rfl
@[simp] theorem State.setHl_l (s : State) (v : Word) : (s.setHl v).l = loByte v := rfl
@[simp] theorem State.setHl_f (s : State) (v : Word) : (s.setHl v).f = s.f := rfl
@[simp] theorem State.setHl_pc (s : State) (v : Word) : (s.setHl v).pc = s.pc := rfl
@[simp] theorem State.setHl_sp (s : State) (v : Word) : (s.setHl v).sp = s.sp := rfl
@[simp] theorem State.setHl_r (s : State) (v : Word) : (s.setHl v).r = s.r := rfl
@[simp] theorem State.setHl_ime (s : State) (v : Word) : (s.setHl v).ime = s.ime := rfl
@[simp] theorem State.setHl_halt (s : State) (v : Word) : (s.setHl v).halt = s.halt := rfl
@[simp] theorem State.setHl_stop (s : State) (v : Word) : (s.setHl v).stop = s.stop := rfl
@[simp] theorem State.setHl_m (s : State) (v : Word) : (s.setHl v).m = s.m := rfl
@[simp] theorem State.setHl_t (s : State) (v : Word) : (s.setHl v).t = s.t := rfl
@[simp] theorem State.setHl_clkM (s : State) (v : Word) : (s.setHl v).clkM = s.clkM := rfl
@[simp] theorem State.setHl_clkT (s : State) (v : Word) : (s.setHl v).clkT = s.clkT := rfl
@[simp] theorem State.setHl_mem (s : State) (v : Word) : (s.setHl v).mem = s.mem := rfl
@[simp] theorem State.setHl_regions (s : State) (v : Word) : (s.setHl v).regions = s.regions := rfl
@[simp] theorem State.setHl_answers (s : State) (v : Word) : (s.setHl v).answers = s.answers := rfl
@[simp] theorem State.setHl_cbResSet (s : State) (v : Word) : (s.setHl v).cbResSet = s.cbResSet := rfl
@[simp] theorem State.setHl_reports (s : State) (v : Word) : (s.setHl v).reports = s.reports := rfl

@[simp] theorem State.setPc_a (s : State) (v : Word) : (s.setPc v).a = s.a := rfl
@[simp] theorem State.setPc_b (s : State) (v : Word) : (s.setPc v).b = s.b := rfl
@[simp] theorem State.setPc_c (s : State) (v : Word) : (s.setPc v).c = s.c := rfl
@[simp] theorem State.setPc_d (s : State) (v : Word) : (s.setPc v).d = s.d := rfl
@[simp] theorem State.setPc_e (s : State) (v : Word) : (s.setPc v).e = s.e := rfl
@[simp] theorem State.setPc_h (s : State) (v : Word) : (s.setPc v).h = s.h := rfl
@[simp] theorem State.setPc_l (s : State) (v : Word) : (s.setPc v).l = s.l := rfl
@[simp] theorem State.setPc_f (s : State) (v : Word) : (s.setPc v).f = s.f := rfl
@[simp] theorem State.setPc_pc (s : State) (v : Word) : (s.setPc v).pc = v := rfl
@[simp] theorem State.setPc_sp (s : State) (v : Word) : (s.setPc v).sp = s.sp := rfl
@[simp] theorem State.setPc_r (s : State) (v : Word) : (s.setPc v).r = s.r := rfl
@[simp] theorem State.setPc_ime (s : State) (v : Word) : (s.setPc v).ime = s.ime := rfl
@[simp] theorem State.setPc_halt (s : State) (v : Word) : (s.setPc v).halt = s.halt := rfl
@[simp] theorem State.setPc_stop (s : State) (v : Word) : (s.setPc v).stop = s.stop := rfl
@[simp] theorem State.setPc_m (s : State) (v : Word) : (s.setPc v).m = s.m := rfl
@[simp] theorem State.setPc_t (s : State) (v : Word) : (s.setPc v).t = s.t := rfl
@[simp] theorem State.setPc_clkM (s : State) (v : Word) : (s.setPc v).clkM = s.clkM := rfl
@[simp] theorem State.setPc_clkT (s : State) (v : Word) : (s.setPc v).clkT = s.clkT := rfl
@[simp] theorem State.setPc_mem (s : State) (v : Word) : (s.setPc v).mem = s.mem := rfl
@[simp] theorem State.setPc_regions (s : State) (v : Word) : (s.setPc v).regions = s.regions := rfl
@[simp] theorem State.setPc_answers (s : State) (v : Word) : (s.setPc v).answers = s.answers := rfl
@[simp] theorem State.setPc_cbResSet (s : State) (v : Word) : (s.setPc v).cbResSet = s.cbResSet := rfl
@[simp] theorem State.setPc_reports (s : State) (v : Word) : (s.setPc v).reports = s.reports := rfl

@[simp] theorem State.setSp_a (s : State) (v : Word) : (s.setSp v).a = s.a := rfl
@[simp] theorem State.setSp_b (s : State) (v : Word) : (s.setSp v).b = s.b := rfl
@[simp] theorem State.setSp_c (s : State) (v : Word) : (s.setSp v).c = s.c := rfl
@[simp] theorem State.setSp_d (s : State) (v : Word) : (s.setSp v).d = s.d := rfl
@[simp] theorem State.setSp_e (s : State) (v : Word) : (s.setSp v).e = s.e := rfl
@[simp] theorem State.setSp_h (s : State) (v : Word) : (s.setSp v).h = s.h := rfl
@[simp] theorem State.setSp_l (s : State) (v : Word) : (s.setSp v).l = s.l := rfl
@[simp] theorem State.setSp_f (s : State) (v : Word) : (s.setSp v).f = s.f := rfl
@[simp] theorem State.setSp_pc (s : State) (v : Word) : (s.setSp v).pc = s.pc := rfl
@[simp] theorem State.setSp_sp (s : State) (v : Word) : (s.setSp v).sp = v := rfl
@[simp] theorem State.setSp_r (s : State) (v : Word) : (s.setSp v).r = s.r := rfl
@[simp] theorem State.setSp_ime (s : State) (v : Word) : (s.setSp v).ime = s.ime := rfl
@[simp] theorem State.setSp_halt (s : State) (v : Word) : (s.setSp v).halt = s.halt := rfl
@[simp] theorem State.setSp_stop (s : State) (v : Word) : (s.setSp v).stop = s.stop := rfl
@[simp] theorem State.setSp_m (s : State) (v : Word) : (s.setSp v).m = s.m := rfl
@[simp] theorem State.setSp_t (s : State) (v : Word) : (s.setSp v).t = s.t := rfl
@[simp] theorem State.setSp_clkM (s : State) (v : Word) : (s.setSp v).clkM = s.clkM := rfl
@[simp] theorem State.setSp_clkT (s : State) (v : Word) : (s.setSp v).clkT = s.clkT := rfl
@[simp] theorem State.setSp_mem (s : State) (v : Word) : (s.setSp v).mem = s.mem := rfl
@[simp] theorem State.setSp_regions (s : State) (v : Word) : (s.setSp v).regions = s.regions := rfl
@[simp] theorem State.setSp_answers (s : State) (v : Word) : (s.setSp v).answers = s.answers := rfl
@[simp] theorem State.setSp_cbResSet (s : State) (v : Word) : (s.setSp v).cbResSet = s.cbResSet := rfl
@[simp] theorem State.setSp_reports (s : State) (v : Word) : (s.setSp v).reports = s.reports := rfl

@[simp] theorem State.setFlags_a (s : State) (z n h c : Bool) : (s.setFlags z n h c).a = s.a := rfl
@[simp] theorem State.setFlags_b (s : State) (z n h c : Bool) : (s.setFlags z n h c).b = s.b := rfl
@[simp] theorem State.setFlags_c (s : State) (z n h c : Bool) : (s.setFlags z n h c).c = s.c := rfl
@[simp] theorem State.setFlags_d (s : State) (z n h c : Bool) : (s.setFlags z n h c).d = s.d := rfl
@[simp] theorem State.setFlags_e (s : State) (z n h c : Bool) : (s.setFlags z n h c).e = s.e := rfl
@[simp] theorem State.setFlags_h (s : State) (z n h c : Bool) : (s.setFlags z n h c).h = s.h := rfl
@[simp] theorem State.setFlags_l (s : State) (z n h c : Bool) : (s.setFlags z n h c).l = s.l := rfl
@[simp] theorem State.setFlags_f (s : State) (z n h c : Bool) : (s.setFlags z n h c).f = flagByte z n h c := rfl
@[simp] theorem State.setFlags_pc (s : State) (z n h c : Bool) : (s.setFlags z n h c).pc = s.pc := rfl
@[simp] theorem State.setFlags_sp (s : State) (z n h c : Bool) : (s.setFlags z n h c).sp = s.sp := rfl
@[simp] theorem State.setFlags_r (s : State) (z n h c : Bool) : (s.setFlags z n h c).r = s.r := rfl
@[simp] theorem State.setFlags_ime (s : State) (z n h c : Bool) : (s.setFlags z n h c).ime = s.ime := rfl
@[simp] theorem State.setFlags_halt (s : State) (z n h c : Bool) : (s.setFlags z n h c).halt = s.halt := rfl
@[simp] theorem State.setFlags_stop (s : State) (z n h c : Bool) : (s.setFlags z n h c).stop = s.stop := rfl
@[simp] theorem State.setFlags_m (s : State) (z n h c : Bool) : (s.setFlags z n h c).m = s.m := rfl
@[simp] theorem State.setFlags_t (s : State) (z n h c : Bool) : (s.setFlags z n h c).t = s.t := rfl
@[simp] theorem State.setFlags_clkM (s : State) (z n h c : Bool) : (s.setFlags z n h c).clkM = s.clkM := rfl
@[simp] theorem State.setFlags_clkT (s : State) (z n h c : Bool) : (s.setFlags z n h c).clkT = s.clkT := rfl
@[simp] theorem State.setFlags_mem (s : State) (z n h c : Bool) : (s.setFlags z n h c).mem = s.mem := rfl
@[simp] theorem State.setFlags_regions (s : State) (z n h c : Bool) : (s.setFlags z n h c).regions = s.regions := rfl
@[simp] theorem State.setFlags_answers (s : State) (z n h c : Bool) : (s.setFlags z n h c).answers = s.answers := rfl
@[simp] theorem State.setFlags_cbResSet (s : State) (z n h c : Bool) : (s.setFlags z n h c).cbResSet = s.cbResSet := rfl
@[simp] theorem State.setFlags_reports (s : State) (z n h c : Bool) : (s.setFlags z n h c).reports = s.reports := rfl

@[simp] theorem State.charge_a (s : State) (row : CostRow) : (s.charge row).a = s.a := rfl
@[simp] theorem State.charge_b (s : State) (row : CostRow) : (s.charge row).b = s.b := rfl
@[simp] theorem State.charge_c (s : State) (row : CostRow) : (s.charge row).c = s.c := rfl
@[simp] theorem State.charge_d (s : State) (row : CostRow) : (s.charge row).d = s.d := rfl
@[simp] theorem State.charge_e (s : State) (row : CostRow) : (s.charge row).e = s.e := rfl
@[simp] theorem State.charge_h (s : State) (row : CostRow) : (s.charge row).h = s.h := rfl
@[simp] theorem State.charge_l (s : State) (row : CostRow) : (s.charge row).l = s.l := rfl
@[simp] theorem State.charge_f (s : State) (row : CostRow) : (s.charge row).f = s.f := rfl
@[simp] theorem State.charge_pc (s : State) (row : CostRow) : (s.charge row).pc = s.pc := rfl
@[simp] theorem State.charge_sp (s : State) (row : CostRow) : (s.charge row).sp = s.sp := rfl
@[simp] theorem State.charge_r (s : State) (row : CostRow) : (s.charge row).r = s.r := rfl
@[simp] theorem State.charge_ime (s : State) (row : CostRow) : (s.charge row).ime = s.ime := rfl
@[simp] theorem State.charge_halt (s : State) (row : CostRow) : (s.charge row).halt = s.halt := rfl
@[simp] theorem State.charge_stop (s : State) (row : CostRow) : (s.charge row).stop = s.stop := rfl
@[simp] theorem State.charge_m (s : State) (row : CostRow) : (s.charge row).m = cycles row := rfl
@[simp] theorem State.charge_t (s : State) (row : CostRow) : (s.charge row).t = 4 * cycles row := rfl
@[simp] theorem State.charge_clkM (s : State) (row : CostRow) : (s.charge row).clkM = s.clkM := rfl
@[simp] theorem State.charge_clkT (s : State) (row : CostRow) : (s.charge row).clkT = s.clkT := rfl
@[simp] theorem State.charge_mem (s : State) (row : CostRow) : (s.charge row).mem = s.mem := rfl
@[simp] theorem State.charge_regions (s : State) (row : CostRow) : (s.charge row).regions = s.regions := rfl
@[simp] theorem State.charge_answers (s : State) (row : CostRow) : (s.charge row).answers = s.answers := rfl
@[simp] theorem State.charge_cbResSet (s : State) (row : CostRow) : (s.charge row).cbResSet = s.cbResSet := rfl
@[simp] theorem State.charge_reports (s : State) (row : CostRow) : (s.charge row).reports = s.reports := rfl

@[simp] theorem State.poke_a (s : State) (x : Word) (v : Byte) : (s.poke x v).a = s.a := rfl
@[simp] theorem State.poke_b (s : State) (x : Word) (v : Byte) : (s.poke x v).b = s.b := rfl
@[simp] theorem State.poke_c (s : State) (x : Word) (v : Byte) : (s.poke x v).c = s.c := rfl
@[simp] theorem State.poke_d (s : State) (x : Word) (v : Byte) : (s.poke x v).d = s.d := rfl
@[simp] theorem State.poke_e (s : State) (x : Word) (v : Byte) : (s.poke x v).e = s.e := rfl
@[simp] theorem State.poke_h (s : State) (x : Word) (v : Byte) : (s.poke x v).h = s.h := rfl
@[simp] theorem State.poke_l (s : State) (x : Word) (v : Byte) : (s.poke x v).l = s.l := rfl
@[simp] theorem State.poke_f (s : State) (x : Word) (v : Byte) : (s.poke x v).f = s.f := rfl
@[simp] theorem State.poke_pc (s : State) (x : Word) (v : Byte) : (s.poke x v).pc = s.pc := rfl
@[simp] theorem State.poke_sp (s : State) (x : Word) (v : Byte) : (s.poke x v).sp = s.sp := rfl
@[simp] theorem State.poke_r (s : State) (x : Word) (v : Byte) : (s.poke x v).r = s.r := rfl
@[simp] theorem State.poke_ime (s : State) (x : Word) (v : Byte) : (s.poke x v).ime = s.ime := rfl
@[simp] theorem State.poke_halt (s : State) (x : Word) (v : Byte) : (s.poke x v).halt = s.halt := rfl
@[simp] theorem State.poke_stop (s : State) (x : Word) (v : Byte) : (s.poke x v).stop = s.stop := rfl
@[simp] theorem State.poke_m (s : State) (x : Word) (v : Byte) : (s.poke x v).m = s.m := rfl
@[simp] theorem State.poke_t (s : State) (x : Word) (v : Byte) : (s.poke x v).t = s.t := rfl
@[simp] theorem State.poke_clkM (s : State) (x : Word) (v : Byte) : (s.poke x v).clkM = s.clkM := rfl
@[simp] theorem State.poke_clkT (s : State) (x : Word) (v : Byte) : (s.poke x v).clkT = s.clkT := rfl
@[simp] theorem State.poke_mem (s : State) (x : Word) (v : Byte) : (s.poke x v).mem = Memory.write s.mem x.toNat v := rfl
@[simp] theorem State.poke_regions (s : State) (x : Word) (v : Byte) : (s.poke x v).regions = s.regions := rfl
@[simp] theorem State.poke_answers (s : State) (x : Word) (v : Byte) : (s.poke x v).answers = s.answers := rfl
@[simp] theorem State.poke_cbResSet (s : State) (x : Word) (v : Byte) : (s.poke x v).cbResSet = s.cbResSet := rfl
@[simp] theorem State.poke_reports (s : State) (x : Word) (v : Byte) : (s.poke x v).reports = s.reports := rfl

@[simp] theorem State.account_a (s : State) : (s.account).a = s.a := rfl
@[simp] theorem State.account_b (s : State) : (s.account).b = s.b := rfl
@[simp] theorem State.account_c (s : State) : (s.account).c = s.c := rfl
@[simp] theorem State.account_d (s : State) : (s.account).d = s.d := rfl
@[simp] theorem State.account_e (s : State) : (s.account).e = s.e := rfl
@[simp] theorem State.account_h (s : State) : (s.account).h = s.h := rfl
@[simp] theorem State.account_l (s : State) : (s.account).l = s.l := rfl
@[simp] theorem State.account_f (s : State) : (s.account).f = s.f := rfl
@[simp] theorem State.account_pc (s : State) : (s.account).pc = s.pc := rfl
@[simp] theorem State.account_sp (s : State) : (s.account).sp = s.sp := rfl
@[simp] theorem State.account_r (s : State) : (s.account).r = s.r := rfl
@[simp] theorem State.account_ime (s : State) : (s.account).ime = s.ime := rfl
@[simp] theorem State.account_halt (s : State) : (s.account).halt = s.halt := rfl
@[simp] theorem State.account_stop (s : State) : (s.account).stop = s.stop := rfl
@[simp] theorem State.account_m (s : State) : (s.account).m = s.m := rfl
@[simp] theorem State.account_t (s : State) : (s.account).t = s.t := rfl
@[simp] theorem State.account_clkM (s : State) : (s.account).clkM = s.clkM + s.m := rfl
@[simp] theorem State.account_clkT (s : State) : (s.account).clkT = s.clkT + s.t := rfl
@[simp] theorem State.account_mem (s : State) : (s.account).mem = s.mem := rfl
@[simp] theorem State.account_regions (s : State) : (s.account).regions = s.regions := rfl
@[simp] theorem State.account_answers (s : State) : (s.account).answers = s.answers := rfl
@[simp] theorem State.account_cbResSet (s : State) : (s.account).cbResSet = s.cbResSet := rfl
@[simp] theorem State.account_reports (s : State) : (s.account).reports = s.reports := rfl

@[simp] theorem State.advance_a (s : State) (n : Nat) : (s.advance n).a = s.a := rfl
@[simp] theorem State.advance_b (s : State) (n : Nat) : (s.advance n).b = s.b := rfl
@[simp] theorem State.advance_c (s : State) (n : Nat) : (s.advance n).c = s.c := rfl
@[simp] theorem State.advance_d (s : State) (n : Nat) : (s.advance n).d = s.d := rfl
@[simp] theorem State.advance_e (s : State) (n : Nat) : (s.advance n).e = s.e := rfl
@[simp] theorem State.advance_h (s : State) (n : Nat) : (s.advance n).h = s.h := rfl
@[simp] theorem State.advance_l (s : State) (n : Nat) : (s.advance n).l = s.l := rfl
@[simp] theorem State.advance_f (s : State) (n : Nat) : (s.advance n).f = s.f := rfl
@[simp] theorem State.advance_pc (s : State) (n : Nat) : (s.advance n).pc = s.pc + BitVec.ofNat 16 n := rfl
@[simp] theorem State.advance_sp (s : State) (n : Nat) : (s.advance n).sp = s.sp := rfl
@[simp] theorem State.advance_r (s : State) (n : Nat) : (s.advance n).r = s.r + 1 := rfl
@[simp] theorem State.advance_ime (s : State) (n : Nat) : (s.advance n).ime = s.ime := rfl
@[simp] theorem State.advance_halt (s : State) (n : Nat) : (s.advance n).halt = s.halt := rfl
@[simp] theorem State.advance_stop (s : State) (n : Nat) : (s.advance n).stop = s.stop := rfl
@[simp] theorem State.advance_m (s : State) (n : Nat) : (s.advance n).m = s.m := rfl
@[simp] theorem State.advance_t (s : State) (n : Nat) : (s.advance n).t = s.t := rfl
@[simp] theorem State.advance_clkM (s : State) (n : Nat) : (s.advance n).clkM = s.clkM := rfl
@[simp] theorem State.advance_clkT (s : State) (n : Nat) : (s.advance n).clkT = s.clkT := rfl
@[simp] theorem State.advance_mem (s : State) (n : Nat) : (s.advance n).mem = s.mem := rfl
@[simp] theorem State.advance_regions (s : State) (n : Nat) : (s.advance n).regions = s.regions := rfl
@[simp] theorem State.advance_answers (s : State) (n : Nat) : (s.advance n).answers = s.answers := rfl
@[simp] theorem State.advance_cbResSet (s : State) (n : Nat) : (s.advance n).cbResSet = s.cbResSet := rfl
@[simp] theorem State.advance_reports (s : State) (n : Nat) : (s.advance n).reports = s.reports := rfl

@[simp] theorem State.raiseIllegal_a (s : State) (x : Word) (v : Byte) : (s.raiseIllegal x v).a = s.a := rfl
@[simp] theorem State.raiseIllegal_b (s : State) (x : Word) (v : Byte) : (s.raiseIllegal x v).b = s.b := rfl
@[simp] theorem State.raiseIllegal_c (s : State) (x : Word) (v : Byte) : (s.raiseIllegal x v).c = s.c := rfl
@[simp] theorem State.raiseIllegal_d (s : State) (x : Word) (v : Byte) : (s.raiseIllegal x v).d = s.d := rfl
@[simp] theorem State.raiseIllegal_e (s : State) (x : Word) (v : Byte) : (s.raiseIllegal x v).e = s.e := rfl
@[simp] theorem State.raiseIllegal_h (s : State) (x : Word) (v : Byte) : (s.raiseIllegal x v).h = s.h := rfl
@[simp] theorem State.raiseIllegal_l (s : State) (x : Word) (v : Byte) : (s.raiseIllegal x v).l = s.l := rfl
@[simp] theorem State.raiseIllegal_f (s : State) (x : Word) (v : Byte) : (s.raiseIllegal x v).f = s.f := rfl
@[simp] theorem State.raiseIllegal_pc (s : State) (x : Word) (v : Byte) : (s.raiseIllegal x v).pc = s.pc := rfl
@[simp] theorem State.raiseIllegal_sp (s : State) (x : Word) (v : Byte) : (s.raiseIllegal x v).sp = s.sp := rfl
@[simp] theorem State.raiseIllegal_r (s : State) (x : Word) (v : Byte) : (s.raiseIllegal x v).r = s.r := rfl
@[simp] theorem State.raiseIllegal_ime (s : State) (x : Word) (v : Byte) : (s.raiseIllegal x v).ime = s.ime := rfl
@[simp] theorem State.raiseIllegal_halt (s : State) (x : Word) (v : Byte) : (s.raiseIllegal x v).halt = s.halt := rfl
@[simp] theorem State.raiseIllegal_stop (s : State) (x : Word) (v : Byte) : (s.raiseIllegal x v).stop = true := rfl
@[simp] theorem State.raiseIllegal_m (s : State) (x : Word) (v : Byte) : (s.raiseIllegal x v).m = 0 := rfl
@[simp] theorem State.raiseIllegal_t (s : State) (x : Word) (v : Byte) : (s.raiseIllegal x v).t = 0 := rfl
@[simp] theorem State.raiseIllegal_clkM (s : State) (x : Word) (v : Byte) : (s.raiseIllegal x v).clkM = s.clkM := rfl
@[simp] theorem State.raiseIllegal_clkT (s : State) (x : Word) (v : Byte) : (s.raiseIllegal x v).clkT = s.clkT := rfl
@[simp] theorem State.raiseIllegal_mem (s : State) (x : Word) (v : Byte) : (s.raiseIllegal x v).mem = s.mem := rfl
@[simp] theorem State.raiseIllegal_regions (s : State) (x : Word) (v : Byte) : (s.raiseIllegal x v).regions = s.regions := rfl
@[simp] theorem State.raiseIllegal_answers (s : State) (x : Word) (v : Byte) : (s.raiseIllegal x v).answers = s.answers := rfl
@[simp] theorem State.raiseIllegal_cbResSet (s : State) (x : Word) (v : Byte) : (s.raiseIllegal x v).cbResSet = s.cbResSet := rfl
@[simp] theorem State.raiseIllegal_reports (s : State) (x : Word) (v : Byte) : (s.raiseIllegal x v).reports = s.reports ++ [⟨x, v⟩] := rfl

@[simp] theorem State.hostResume_a (s : State) : (s.hostResume).a = s.a := rfl
@[simp] theorem State.hostResume_b (s : State) : (s.hostResume).b = s.b := rfl
@[simp] theorem State.hostResume_c (s : State) : (s.hostResume).c = s.c := rfl
@[simp] theorem State.hostResume_d (s : State) : (s.hostResume).d = s.d := rfl
@[simp] theorem State.hostResume_e (s : State) : (s.hostResume).e = s.e := rfl
@[simp] theorem State.hostResume_h (s : State) : (s.hostResume).h = s.h := rfl
@[simp] theorem State.hostResume_l (s : State) : (s.hostResume).l = s.l := rfl
@[simp] theorem State.hostResume_f (s : State) : (s.hostResume).f = s.f := rfl
@[simp] theorem State.hostResume_pc (s : State) : (s.hostResume).pc = s.pc := rfl
@[simp] theorem State.hostResume_sp (s : State) : (s.hostResume).sp = s.sp := rfl
@[simp] theorem State.hostResume_r (s : State) : (s.hostResume).r = s.r := rfl
@[simp] theorem State.hostResume_ime (s : State) : (s.hostResume).ime = s.ime := rfl
@[simp] theorem State.hostResume_halt (s : State) : (s.hostResume).halt = s.halt := rfl
@[simp] theorem State.hostResume_stop (s : State) : (s.hostResume).stop = false := rfl
@[simp] theorem State.hostResume_m (s : State) : (s.hostResume).m = s.m := rfl
@[simp] theorem State.hostResume_t (s : State) : (s.hostResume).t = s.t := rfl
@[simp] theorem State.hostResume_clkM (s : State) : (s.hostResume).clkM = s.clkM := rfl
@[simp] theorem State.hostResume_clkT (s : State) : (s.hostResume).clkT = s.clkT := rfl
@[simp] theorem State.hostResume_mem (s : State) : (s.hostResume).mem = s.mem := rfl
@[simp] theorem State.hostResume_regions (s : State) : (s.hostResume).regions = s.regions := rfl
@[simp] theorem State.hostResume_answers (s : State) : (s.hostResume).answers = s.answers := rfl
@[simp] theorem State.hostResume_cbResSet (s : State) : (s.hostResume).cbResSet = s.cbResSet := rfl
@[simp] theorem State.hostResume_reports (s : State) : (s.hostResume).reports = s.reports := rfl

@[simp] theorem State.hostStop_a (s : State) : (s.hostStop).a = s.a := rfl
@[simp] theorem State.hostStop_b (s : State) : (s.hostStop).b = s.b := rfl
@[simp] theorem State.hostStop_c (s : State) : (s.hostStop).c = s.c := rfl
@[simp] theorem State.hostStop_d (s : State) : (s.hostStop).d = s.d := rfl
@[simp] theorem State.hostStop_e (s : State) : (s.hostStop).e = s.e := rfl
@[simp] theorem State.hostStop_h (s : State) : (s.hostStop).h = s.h := rfl
@[simp] theorem State.hostStop_l (s : State) : (s.hostStop).l = s.l := rfl
@[simp] theorem State.hostStop_f (s : State) : (s.hostStop).f = s.f := rfl
@[simp] theorem State.hostStop_pc (s : State) : (s.hostStop).pc = s.pc := rfl
@[simp] theorem State.hostStop_sp (s : State) : (s.hostStop).sp = s.sp := rfl
@[simp] theorem State.hostStop_r (s : State) : (s.hostStop).r = s.r := rfl
@[simp] theorem State.hostStop_ime (s : State) : (s.hostStop).ime = s.ime := rfl
@[simp] theorem State.hostStop_halt (s : State) : (s.hostStop).halt = s.halt := rfl
@[simp] theorem State.hostStop_stop (s : State) : (s.hostStop).stop = true := rfl
@[simp] theorem State.hostStop_m (s : State) : (s.hostStop).m = s.m := rfl
@[simp] theorem State.hostStop_t (s : State) : (s.hostStop).t = s.t := rfl
@[simp] theorem State.hostStop_clkM (s : State) : (s.hostStop).clkM = s.clkM := rfl
@[simp] theorem State.hostStop_clkT (s : State) : (s.hostStop).clkT = s.clkT := rfl
@[simp] theorem State.hostStop_mem (s : State) : (s.hostStop).mem = s.mem := rfl
@[simp] theorem State.hostStop_regions (s : State) : (s.hostStop).regions = s.regions := rfl
@[simp] theorem State.hostStop_answers (s : State) : (s.hostStop).answers = s.answers := rfl
@[simp] theorem State.hostStop_cbResSet (s : State) : (s.hostStop).cbResSet = s.cbResSet := rfl
@[simp] theorem State.hostStop_reports (s : State) : (s.hostStop).reports = s.reports := rfl

/-! The flag updates and the accumulator operation change F, and A, and nothing else. -/

@[simp] theorem State.setResultFlags_a (s : State) (x : Result8) : (s.setResultFlags x).a = s.a := rfl
@[simp] theorem State.setResultFlags_b (s : State) (x : Result8) : (s.setResultFlags x).b = s.b := rfl
@[simp] theorem State.setResultFlags_c (s : State) (x : Result8) : (s.setResultFlags x).c = s.c := rfl
@[simp] theorem State.setResultFlags_d (s : State) (x : Result8) : (s.setResultFlags x).d = s.d := rfl
@[simp] theorem State.setResultFlags_e (s : State) (x : Result8) : (s.setResultFlags x).e = s.e := rfl
@[simp] theorem State.setResultFlags_h (s : State) (x : Result8) : (s.setResultFlags x).h = s.h := rfl
@[simp] theorem State.setResultFlags_l (s : State) (x : Result8) : (s.setResultFlags x).l = s.l := rfl
@[simp] theorem State.setResultFlags_pc (s : State) (x : Result8) : (s.setResultFlags x).pc = s.pc := rfl
@[simp] theorem State.setResultFlags_sp (s : State) (x : Result8) : (s.setResultFlags x).sp = s.sp := rfl
@[simp] theorem State.setResultFlags_r (s : State) (x : Result8) : (s.setResultFlags x).r = s.r := rfl
@[simp] theorem State.setResultFlags_ime (s : State) (x : Result8) : (s.setResultFlags x).ime = s.ime := rfl
@[simp] theorem State.setResultFlags_halt (s : State) (x : Result8) : (s.setResultFlags x).halt = s.halt := rfl
@[simp] theorem State.setResultFlags_stop (s : State) (x : Result8) : (s.setResultFlags x).stop = s.stop := rfl
@[simp] theorem State.setResultFlags_m (s : State) (x : Result8) : (s.setResultFlags x).m = s.m := rfl
@[simp] theorem State.setResultFlags_t (s : State) (x : Result8) : (s.setResultFlags x).t = s.t := rfl
@[simp] theorem State.setResultFlags_clkM (s : State) (x : Result8) : (s.setResultFlags x).clkM = s.clkM := rfl
@[simp] theorem State.setResultFlags_clkT (s : State) (x : Result8) : (s.setResultFlags x).clkT = s.clkT := rfl
@[simp] theorem State.setResultFlags_mem (s : State) (x : Result8) : (s.setResultFlags x).mem = s.mem := rfl
@[simp] theorem State.setResultFlags_regions (s : State) (x : Result8) : (s.setResultFlags x).regions = s.regions := rfl
@[simp] theorem State.setResultFlags_answers (s : State) (x : Result8) : (s.setResultFlags x).answers = s.answers := rfl
@[simp] theorem State.setResultFlags_cbResSet (s : State) (x : Result8) : (s.setResultFlags x).cbResSet = s.cbResSet := rfl
@[simp] theorem State.setResultFlags_reports (s : State) (x : Result8) : (s.setResultFlags x).reports = s.reports := rfl

@[simp] theorem State.setShiftFlags_a (s : State) (x : Byte × Bool) : (s.setShiftFlags x).a = s.a := rfl
@[simp] theorem State.setShiftFlags_b (s : State) (x : Byte × Bool) : (s.setShiftFlags x).b = s.b := rfl
@[simp] theorem State.setShiftFlags_c (s : State) (x : Byte × Bool) : (s.setShiftFlags x).c = s.c := rfl
@[simp] theorem State.setShiftFlags_d (s : State) (x : Byte × Bool) : (s.setShiftFlags x).d = s.d := rfl
@[simp] theorem State.setShiftFlags_e (s : State) (x : Byte × Bool) : (s.setShiftFlags x).e = s.e := rfl
@[simp] theorem State.setShiftFlags_h (s : State) (x : Byte × Bool) : (s.setShiftFlags x).h = s.h := rfl
@[simp] theorem State.setShiftFlags_l (s : State) (x : Byte × Bool) : (s.setShiftFlags x).l = s.l := rfl
@[simp] theorem State.setShiftFlags_pc (s : State) (x : Byte × Bool) : (s.setShiftFlags x).pc = s.pc := rfl
@[simp] theorem State.setShiftFlags_sp (s : State) (x : Byte × Bool) : (s.setShiftFlags x).sp = s.sp := rfl
@[simp] theorem State.setShiftFlags_r (s : State) (x : Byte × Bool) : (s.setShiftFlags x).r = s.r := rfl
@[simp] theorem State.setShiftFlags_ime (s : State) (x : Byte × Bool) : (s.setShiftFlags x).ime = s.ime := rfl
@[simp] theorem State.setShiftFlags_halt (s : State) (x : Byte × Bool) : (s.setShiftFlags x).halt = s.halt := rfl
@[simp] theorem State.setShiftFlags_stop (s : State) (x : Byte × Bool) : (s.setShiftFlags x).stop = s.stop := rfl
@[simp] theorem State.setShiftFlags_m (s : State) (x : Byte × Bool) : (s.setShiftFlags x).m = s.m := rfl
@[simp] theorem State.setShiftFlags_t (s : State) (x : Byte × Bool) : (s.setShiftFlags x).t = s.t := rfl
@[simp] theorem State.setShiftFlags_clkM (s : State) (x : Byte × Bool) : (s.setShiftFlags x).clkM = s.clkM := rfl
@[simp] theorem State.setShiftFlags_clkT (s : State) (x : Byte × Bool) : (s.setShiftFlags x).clkT = s.clkT := rfl
@[simp] theorem State.setShiftFlags_mem (s : State) (x : Byte × Bool) : (s.setShiftFlags x).mem = s.mem := rfl
@[simp] theorem State.setShiftFlags_regions (s : State) (x : Byte × Bool) : (s.setShiftFlags x).regions = s.regions := rfl
@[simp] theorem State.setShiftFlags_answers (s : State) (x : Byte × Bool) : (s.setShiftFlags x).answers = s.answers := rfl
@[simp] theorem State.setShiftFlags_cbResSet (s : State) (x : Byte × Bool) : (s.setShiftFlags x).cbResSet = s.cbResSet := rfl
@[simp] theorem State.setShiftFlags_reports (s : State) (x : Byte × Bool) : (s.setShiftFlags x).reports = s.reports := rfl

@[simp] theorem State.setBitFlags_a (s : State) (x : Fin 8) (v : Byte) : (s.setBitFlags x v).a = s.a := rfl
@[simp] theorem State.setBitFlags_b (s : State) (x : Fin 8) (v : Byte) : (s.setBitFlags x v).b = s.b := rfl
@[simp] theorem State.setBitFlags_c (s : State) (x : Fin 8) (v : Byte) : (s.setBitFlags x v).c = s.c := rfl
@[simp] theorem State.setBitFlags_d (s : State) (x : Fin 8) (v : Byte) : (s.setBitFlags x v).d = s.d := rfl
@[simp] theorem State.setBitFlags_e (s : State) (x : Fin 8) (v : Byte) : (s.setBitFlags x v).e = s.e := rfl
@[simp] theorem State.setBitFlags_h (s : State) (x : Fin 8) (v : Byte) : (s.setBitFlags x v).h = s.h := rfl
@[simp] theorem State.setBitFlags_l (s : State) (x : Fin 8) (v : Byte) : (s.setBitFlags x v).l = s.l := rfl
@[simp] theorem State.setBitFlags_pc (s : State) (x : Fin 8) (v : Byte) : (s.setBitFlags x v).pc = s.pc := rfl
@[simp] theorem State.setBitFlags_sp (s : State) (x : Fin 8) (v : Byte) : (s.setBitFlags x v).sp = s.sp := rfl
@[simp] theorem State.setBitFlags_r (s : State) (x : Fin 8) (v : Byte) : (s.setBitFlags x v).r = s.r := rfl
@[simp] theorem State.setBitFlags_ime (s : State) (x : Fin 8) (v : Byte) : (s.setBitFlags x v).ime = s.ime := rfl
@[simp] theorem State.setBitFlags_halt (s : State) (x : Fin 8) (v : Byte) : (s.setBitFlags x v).halt = s.halt := rfl
@[simp] theorem State.setBitFlags_stop (s : State) (x : Fin 8) (v : Byte) : (s.setBitFlags x v).stop = s.stop := rfl
@[simp] theorem State.setBitFlags_m (s : State) (x : Fin 8) (v : Byte) : (s.setBitFlags x v).m = s.m := rfl
@[simp] theorem State.setBitFlags_t (s : State) (x : Fin 8) (v : Byte) : (s.setBitFlags x v).t = s.t := rfl
@[simp] theorem State.setBitFlags_clkM (s : State) (x : Fin 8) (v : Byte) : (s.setBitFlags x v).clkM = s.clkM := rfl
@[simp] theorem State.setBitFlags_clkT (s : State) (x : Fin 8) (v : Byte) : (s.setBitFlags x v).clkT = s.clkT := rfl
@[simp] theorem State.setBitFlags_mem (s : State) (x : Fin 8) (v : Byte) : (s.setBitFlags x v).mem = s.mem := rfl
@[simp] theorem State.setBitFlags_regions (s : State) (x : Fin 8) (v : Byte) : (s.setBitFlags x v).regions = s.regions := rfl
@[simp] theorem State.setBitFlags_answers (s : State) (x : Fin 8) (v : Byte) : (s.setBitFlags x v).answers = s.answers := rfl
@[simp] theorem State.setBitFlags_cbResSet (s : State) (x : Fin 8) (v : Byte) : (s.setBitFlags x v).cbResSet = s.cbResSet := rfl
@[simp] theorem State.setBitFlags_reports (s : State) (x : Fin 8) (v : Byte) : (s.setBitFlags x v).reports = s.reports := rfl

@[simp] theorem State.aluWith_b (s : State) (op : AluOp) (v : Byte) : (s.aluWith op v).b = s.b := by cases op <;> rfl
@[simp] theorem State.aluWith_c (s : State) (op : AluOp) (v : Byte) : (s.aluWith op v).c = s.c := by cases op <;> rfl
@[simp] theorem State.aluWith_d (s : State) (op : AluOp) (v : Byte) : (s.aluWith op v).d = s.d := by cases op <;> rfl
@[simp] theorem State.aluWith_e (s : State) (op : AluOp) (v : Byte) : (s.aluWith op v).e = s.e := by cases op <;> rfl
@[simp] theorem State.aluWith_h (s : State) (op : AluOp) (v : Byte) : (s.aluWith op v).h = s.h := by cases op <;> rfl
@[simp] theorem State.aluWith_l (s : State) (op : AluOp) (v : Byte) : (s.aluWith op v).l = s.l := by cases op <;> rfl
@[simp] theorem State.aluWith_pc (s : State) (op : AluOp) (v : Byte) : (s.aluWith op v).pc = s.pc := by cases op <;> rfl
@[simp] theorem State.aluWith_sp (s : State) (op : AluOp) (v : Byte) : (s.aluWith op v).sp = s.sp := by cases op <;> rfl
@[simp] theorem State.aluWith_r (s : State) (op : AluOp) (v : Byte) : (s.aluWith op v).r = s.r := by cases op <;> rfl
@[simp] theorem State.aluWith_ime (s : State) (op : AluOp) (v : Byte) : (s.aluWith op v).ime = s.ime := by cases op <;> rfl
@[simp] theorem State.aluWith_halt (s : State) (op : AluOp) (v : Byte) : (s.aluWith op v).halt = s.halt := by cases op <;> rfl
@[simp] theorem State.aluWith_stop (s : State) (op : AluOp) (v : Byte) : (s.aluWith op v).stop = s.stop := by cases op <;> rfl
@[simp] theorem State.aluWith_m (s : State) (op : AluOp) (v : Byte) : (s.aluWith op v).m = s.m := by cases op <;> rfl
@[simp] theorem State.aluWith_t (s : State) (op : AluOp) (v : Byte) : (s.aluWith op v).t = s.t := by cases op <;> rfl
@[simp] theorem State.aluWith_clkM (s : State) (op : AluOp) (v : Byte) : (s.aluWith op v).clkM = s.clkM := by cases op <;> rfl
@[simp] theorem State.aluWith_clkT (s : State) (op : AluOp) (v : Byte) : (s.aluWith op v).clkT = s.clkT := by cases op <;> rfl
@[simp] theorem State.aluWith_mem (s : State) (op : AluOp) (v : Byte) : (s.aluWith op v).mem = s.mem := by cases op <;> rfl
@[simp] theorem State.aluWith_regions (s : State) (op : AluOp) (v : Byte) : (s.aluWith op v).regions = s.regions := by cases op <;> rfl
@[simp] theorem State.aluWith_answers (s : State) (op : AluOp) (v : Byte) : (s.aluWith op v).answers = s.answers := by cases op <;> rfl
@[simp] theorem State.aluWith_cbResSet (s : State) (op : AluOp) (v : Byte) : (s.aluWith op v).cbResSet = s.cbResSet := by cases op <;> rfl
@[simp] theorem State.aluWith_reports (s : State) (op : AluOp) (v : Byte) : (s.aluWith op v).reports = s.reports := by cases op <;> rfl

/-! What accesses leave, the RAM not written: their answers taken, nothing else. -/

@[simp] theorem State.accessed_a (s : State) (k : List Word) : (s.accessed k).a = s.a := rfl
@[simp] theorem State.accessed_b (s : State) (k : List Word) : (s.accessed k).b = s.b := rfl
@[simp] theorem State.accessed_c (s : State) (k : List Word) : (s.accessed k).c = s.c := rfl
@[simp] theorem State.accessed_d (s : State) (k : List Word) : (s.accessed k).d = s.d := rfl
@[simp] theorem State.accessed_e (s : State) (k : List Word) : (s.accessed k).e = s.e := rfl
@[simp] theorem State.accessed_h (s : State) (k : List Word) : (s.accessed k).h = s.h := rfl
@[simp] theorem State.accessed_l (s : State) (k : List Word) : (s.accessed k).l = s.l := rfl
@[simp] theorem State.accessed_f (s : State) (k : List Word) : (s.accessed k).f = s.f := rfl
@[simp] theorem State.accessed_pc (s : State) (k : List Word) : (s.accessed k).pc = s.pc := rfl
@[simp] theorem State.accessed_sp (s : State) (k : List Word) : (s.accessed k).sp = s.sp := rfl
@[simp] theorem State.accessed_r (s : State) (k : List Word) : (s.accessed k).r = s.r := rfl
@[simp] theorem State.accessed_ime (s : State) (k : List Word) : (s.accessed k).ime = s.ime := rfl
@[simp] theorem State.accessed_halt (s : State) (k : List Word) : (s.accessed k).halt = s.halt := rfl
@[simp] theorem State.accessed_stop (s : State) (k : List Word) : (s.accessed k).stop = s.stop := rfl
@[simp] theorem State.accessed_m (s : State) (k : List Word) : (s.accessed k).m = s.m := rfl
@[simp] theorem State.accessed_t (s : State) (k : List Word) : (s.accessed k).t = s.t := rfl
@[simp] theorem State.accessed_clkM (s : State) (k : List Word) : (s.accessed k).clkM = s.clkM := rfl
@[simp] theorem State.accessed_clkT (s : State) (k : List Word) : (s.accessed k).clkT = s.clkT := rfl
@[simp] theorem State.accessed_mem (s : State) (k : List Word) : (s.accessed k).mem = s.mem := rfl
@[simp] theorem State.accessed_regions (s : State) (k : List Word) : (s.accessed k).regions = s.regions := rfl
@[simp] theorem State.accessed_cbResSet (s : State) (k : List Word) : (s.accessed k).cbResSet = s.cbResSet := rfl
@[simp] theorem State.accessed_reports (s : State) (k : List Word) : (s.accessed k).reports = s.reports := rfl
@[simp] theorem State.accessed_answers (s : State) (k : List Word) :
    (s.accessed k).answers = k.foldl (fun rest a => Answers.past a rest) s.answers := rfl
@[simp] theorem State.accessed_hl (s : State) (k : List Word) : (s.accessed k).hl = s.hl := rfl
@[simp] theorem State.accessed_r8 (s : State) (k : List Word) (x : R8) : (s.accessed k).r8 x = s.r8 x := by cases x <;> rfl
@[simp] theorem State.accessed_nil (s : State) : s.accessed [] = s := rfl

@[simp] theorem State.accessed_accessed (s : State) (k l : List Word) :
    (s.accessed k).accessed l = s.accessed (k ++ l) := by
  simp only [State.accessed, List.foldl_append]

/-! What a write leaves: the RAM as `keepsWrite` says, its answer taken, nothing else. -/

@[simp] theorem State.written_a (s : State) (x : Word) (v : Byte) : (s.written x v).a = s.a := rfl
@[simp] theorem State.written_b (s : State) (x : Word) (v : Byte) : (s.written x v).b = s.b := rfl
@[simp] theorem State.written_c (s : State) (x : Word) (v : Byte) : (s.written x v).c = s.c := rfl
@[simp] theorem State.written_d (s : State) (x : Word) (v : Byte) : (s.written x v).d = s.d := rfl
@[simp] theorem State.written_e (s : State) (x : Word) (v : Byte) : (s.written x v).e = s.e := rfl
@[simp] theorem State.written_h (s : State) (x : Word) (v : Byte) : (s.written x v).h = s.h := rfl
@[simp] theorem State.written_l (s : State) (x : Word) (v : Byte) : (s.written x v).l = s.l := rfl
@[simp] theorem State.written_f (s : State) (x : Word) (v : Byte) : (s.written x v).f = s.f := rfl
@[simp] theorem State.written_pc (s : State) (x : Word) (v : Byte) : (s.written x v).pc = s.pc := rfl
@[simp] theorem State.written_sp (s : State) (x : Word) (v : Byte) : (s.written x v).sp = s.sp := rfl
@[simp] theorem State.written_r (s : State) (x : Word) (v : Byte) : (s.written x v).r = s.r := rfl
@[simp] theorem State.written_ime (s : State) (x : Word) (v : Byte) : (s.written x v).ime = s.ime := rfl
@[simp] theorem State.written_halt (s : State) (x : Word) (v : Byte) : (s.written x v).halt = s.halt := rfl
@[simp] theorem State.written_stop (s : State) (x : Word) (v : Byte) : (s.written x v).stop = s.stop := rfl
@[simp] theorem State.written_m (s : State) (x : Word) (v : Byte) : (s.written x v).m = s.m := rfl
@[simp] theorem State.written_t (s : State) (x : Word) (v : Byte) : (s.written x v).t = s.t := rfl
@[simp] theorem State.written_clkM (s : State) (x : Word) (v : Byte) : (s.written x v).clkM = s.clkM := rfl
@[simp] theorem State.written_clkT (s : State) (x : Word) (v : Byte) : (s.written x v).clkT = s.clkT := rfl
@[simp] theorem State.written_regions (s : State) (x : Word) (v : Byte) : (s.written x v).regions = s.regions := rfl
@[simp] theorem State.written_cbResSet (s : State) (x : Word) (v : Byte) : (s.written x v).cbResSet = s.cbResSet := rfl
@[simp] theorem State.written_reports (s : State) (x : Word) (v : Byte) : (s.written x v).reports = s.reports := rfl
@[simp] theorem State.written_answers (s : State) (x : Word) (v : Byte) : (s.written x v).answers = Answers.past x s.answers := rfl

/-! The views over both. -/

@[simp] theorem State.accessed_bc (s : State) (k : List Word) : (s.accessed k).bc = s.bc := rfl
@[simp] theorem State.accessed_de (s : State) (k : List Word) : (s.accessed k).de = s.de := rfl
@[simp] theorem State.accessed_af (s : State) (k : List Word) : (s.accessed k).af = s.af := rfl
@[simp] theorem State.accessed_flagZ (s : State) (k : List Word) : (s.accessed k).flagZ = s.flagZ := rfl
@[simp] theorem State.accessed_flagN (s : State) (k : List Word) : (s.accessed k).flagN = s.flagN := rfl
@[simp] theorem State.accessed_flagH (s : State) (k : List Word) : (s.accessed k).flagH = s.flagH := rfl
@[simp] theorem State.accessed_flagC (s : State) (k : List Word) : (s.accessed k).flagC = s.flagC := rfl
@[simp] theorem State.accessed_haltedOrStopped (s : State) (k : List Word) : (s.accessed k).haltedOrStopped = s.haltedOrStopped := rfl
@[simp] theorem State.accessed_rp (s : State) (k : List Word) (y : Rp) : (s.accessed k).rp y = s.rp y := by cases y <;> rfl
@[simp] theorem State.accessed_rp2 (s : State) (k : List Word) (y : Rp2) : (s.accessed k).rp2 y = s.rp2 y := by cases y <;> rfl
@[simp] theorem State.accessed_getFlag (s : State) (k : List Word) (y : Flag) : (s.accessed k).getFlag y = s.getFlag y := rfl
@[simp] theorem State.accessed_cond (s : State) (k : List Word) (y : Cond) : (s.accessed k).cond y = s.cond y := by cases y <;> rfl
@[simp] theorem State.written_bc (s : State) (x : Word) (v : Byte) : (s.written x v).bc = s.bc := rfl
@[simp] theorem State.written_de (s : State) (x : Word) (v : Byte) : (s.written x v).de = s.de := rfl
@[simp] theorem State.written_af (s : State) (x : Word) (v : Byte) : (s.written x v).af = s.af := rfl
@[simp] theorem State.written_flagZ (s : State) (x : Word) (v : Byte) : (s.written x v).flagZ = s.flagZ := rfl
@[simp] theorem State.written_flagN (s : State) (x : Word) (v : Byte) : (s.written x v).flagN = s.flagN := rfl
@[simp] theorem State.written_flagH (s : State) (x : Word) (v : Byte) : (s.written x v).flagH = s.flagH := rfl
@[simp] theorem State.written_flagC (s : State) (x : Word) (v : Byte) : (s.written x v).flagC = s.flagC := rfl
@[simp] theorem State.written_haltedOrStopped (s : State) (x : Word) (v : Byte) : (s.written x v).haltedOrStopped = s.haltedOrStopped := rfl
@[simp] theorem State.written_hl (s : State) (x : Word) (v : Byte) : (s.written x v).hl = s.hl := rfl
@[simp] theorem State.written_rp (s : State) (x : Word) (v : Byte) (y : Rp) : (s.written x v).rp y = s.rp y := by cases y <;> rfl
@[simp] theorem State.written_rp2 (s : State) (x : Word) (v : Byte) (y : Rp2) : (s.written x v).rp2 y = s.rp2 y := by cases y <;> rfl
@[simp] theorem State.written_getFlag (s : State) (x : Word) (v : Byte) (y : Flag) : (s.written x v).getFlag y = s.getFlag y := rfl
@[simp] theorem State.written_cond (s : State) (x : Word) (v : Byte) (y : Cond) : (s.written x v).cond y = s.cond y := by cases y <;> rfl
@[simp] theorem State.written_r8 (s : State) (x : Word) (v : Byte) (y : R8) : (s.written x v).r8 y = s.r8 y := by cases y <;> rfl

end Sys2Proof.Machine

namespace Sys2Proof

/-- INIT.F has a zero low nibble (R4, R28), by how it is given. -/
theorem Init.f_lowNibble (i : Init) : i.f &&& 0x0F#8 = 0#8 := by
  have : ∀ x : BitVec 4, (x ++ 0#4 : BitVec 8) &&& 0x0F#8 = 0#8 := by decide
  exact this i.flags

end Sys2Proof
end

