-- ==== Sys2Proof/Laws/Arith.lean ====
section
/-! SUPPORT. The bit and flag computations: halves and joins, sums and differences modulo a power of two, the flag
byte, and the result bits of a shift, of RES and of SET. -/

namespace Sys2Proof

@[simp] theorem hiByte_joinBytes (hi lo : Byte) : hiByte (joinBytes hi lo) = hi := by
  apply BitVec.eq_of_getLsbD_eq; intro i hlt
  rw [hiByte, joinBytes, BitVec.getLsbD_extractLsb', BitVec.getLsbD_append]
  simp [hlt]

@[simp] theorem loByte_joinBytes (hi lo : Byte) : loByte (joinBytes hi lo) = lo := by
  apply BitVec.eq_of_getLsbD_eq; intro i hlt
  rw [loByte, joinBytes, BitVec.getLsbD_extractLsb', BitVec.getLsbD_append]
  simp [hlt]

@[simp] theorem joinBytes_halves (v : Word) : joinBytes (hiByte v) (loByte v) = v := by
  unfold joinBytes hiByte loByte
  rw [BitVec.extractLsb'_append_extractLsb'_eq_extractLsb'] <;> simp

theorem joinBytes_toNat (hi lo : Byte) : (joinBytes hi lo).toNat = hi.toNat * 256 + lo.toNat := by
  rw [joinBytes, BitVec.toNat_append, ← Nat.shiftLeft_add_eq_or_of_lt lo.isLt, Nat.shiftLeft_eq]

theorem sext16_toNat (e : Byte) (v : Word) :
    ((v + sext16 e).toNat : Int) = ((v.toNat : Int) + e.toInt) % 65536 := by
  rw [sext16, BitVec.toNat_add]
  have h : ((BitVec.signExtend 16 e).toNat : Int) = e.toInt % 65536 := by
    rw [BitVec.toNat_signExtend, BitVec.toInt_eq_msb_cond]
    have := e.isLt
    cases e.msb
    · simp
    · simp; omega
  omega

namespace Machine

theorem highPage_toNat (n : Byte) : (highPage n).toNat = 0xFF00 + n.toNat := by
  have := n.isLt
  simp [highPage, zext16, BitVec.toNat_add, BitVec.toNat_setWidth]; omega

/-! ### The accumulator operations -/

theorem addCarry_eq (a b : Byte) (cin : Nat) :
    addCarry a b cin =
      { res := a + b + BitVec.ofNat 8 cin, z := decide (a + b + BitVec.ofNat 8 cin = 0#8), n := false
        h := decide (15 < a.toNat % 16 + b.toNat % 16 + cin), c := decide (255 < a.toNat + b.toNat + cin) } := by
  have h : BitVec.ofNat 8 (a.toNat + b.toNat + cin) = a + b + BitVec.ofNat 8 cin := by
    apply BitVec.eq_of_toNat_eq; simp [BitVec.toNat_add]
  simp only [addCarry, h, gt_iff_lt]; rfl

theorem subBorrow_eq (a b : Byte) (cin : Nat) :
    subBorrow a b cin =
      { res := a - b - BitVec.ofNat 8 cin, z := decide (a - b - BitVec.ofNat 8 cin = 0#8), n := true
        h := decide (a.toNat % 16 < b.toNat % 16 + cin), c := decide (a.toNat < b.toNat + cin) } := by
  have h : BitVec.ofInt 8 ((a.toNat : Int) - b.toNat - cin) = a - b - BitVec.ofNat 8 cin := by
    apply BitVec.eq_of_toNat_eq
    have := a.isLt
    have := b.isLt
    rw [BitVec.toNat_ofInt, BitVec.toNat_sub, BitVec.toNat_sub, BitVec.toNat_ofNat]
    omega
  have h1 : (((a.toNat % 16 : Nat) : Int) - (b.toNat % 16 : Nat) - cin < 0) ↔ a.toNat % 16 < b.toNat % 16 + cin := by
    omega
  have h2 : ((a.toNat : Int) - b.toNat - cin < 0) ↔ a.toNat < b.toNat + cin := by omega
  simp only [subBorrow, h, h1, h2]; rfl

theorem incByte_eq (v : Byte) (c : Bool) :
    incByte v c = { res := v + 1#8, z := decide (v + 1#8 = 0#8), n := false, h := decide (v.toNat % 16 = 15), c := c } := by
  have h : BitVec.ofNat 8 (v.toNat + 1) = v + 1#8 := by apply BitVec.eq_of_toNat_eq; simp [BitVec.toNat_add]
  simp only [incByte, h]; rfl

theorem decByte_eq (v : Byte) (c : Bool) :
    decByte v c = { res := v - 1#8, z := decide (v - 1#8 = 0#8), n := true, h := decide (v.toNat % 16 = 0), c := c } := by
  have h : BitVec.ofInt 8 ((v.toNat : Int) - 1) = v - 1#8 := by
    apply BitVec.eq_of_toNat_eq
    have := v.isLt
    rw [BitVec.toNat_ofInt, BitVec.toNat_sub, show (1#8).toNat = 1 from rfl]
    omega
  simp only [decByte, h]; rfl

/-! ### The flag byte -/

theorem flagByte_lowNibble (z n h c : Bool) : flagByte z n h c &&& 0x0F#8 = 0#8 := by
  revert z n h c; decide

@[simp] theorem flagByte_carry (z n h c : Bool) : (flagByte z n h c).getLsbD 4 = c := by
  revert z n h c; decide

@[simp] theorem flagByte_halfCarry (z n h c : Bool) : (flagByte z n h c).getLsbD 5 = h := by
  revert z n h c; decide

@[simp] theorem flagByte_subtract (z n h c : Bool) : (flagByte z n h c).getLsbD 6 = n := by
  revert z n h c; decide

@[simp] theorem flagByte_zero (z n h c : Bool) : (flagByte z n h c).getLsbD 7 = z := by
  revert z n h c; decide

/-- A flag byte whose low nibble is zero is its own four flags. -/
theorem flagByte_self (s : State) (h : s.f &&& 0x0F#8 = 0#8) : flagByte s.flagZ s.flagN s.flagH s.flagC = s.f := by
  have key : ∀ f : Byte, f &&& 0x0F#8 = 0#8 →
      flagByte (f.getLsbD 7) (f.getLsbD 6) (f.getLsbD 5) (f.getLsbD 4) = f := by decide
  exact key s.f h

/-! ### Shifts and bits -/

theorem bitAt_bit (b : Bool) (k i : Nat) (hi : i < 8) : (bitAt b k).getLsbD i = (b && decide (i = k)) := by
  cases b
  · simp [bitAt]
  · simp [bitAt, hi]
    by_cases h : i = k
    · simp [h]
    · simp [h]; omega

/-- Every bit of a shifted byte. -/
theorem shift_bit (op : ShiftOp) (v : Byte) (cin : Bool) (i : Nat) (hi : i < 8) :
    (shift op v cin).1.getLsbD i = shiftedBit op v cin i := by
  cases op <;> simp only [shift, shiftedBit, BitVec.getLsbD_or, bitAt_bit _ _ _ hi] <;>
    interval_cases i <;> simp

theorem shift_out (op : ShiftOp) (v : Byte) (cin : Bool) : (shift op v cin).2 = shiftedOut op v := by
  cases op <;> rfl

theorem clearBit_bit (b : Fin 8) (v : Byte) (i : Nat) (hi : i < 8) :
    (clearBit b v).getLsbD i = if i = b.val then false else v.getLsbD i := by
  rw [clearBit, BitVec.getLsbD_and, BitVec.getLsbD_not, BitVec.getLsbD_shiftLeft]
  split <;> simp [hi] <;> omega

theorem raiseBit_bit (b : Fin 8) (v : Byte) (i : Nat) (hi : i < 8) :
    (raiseBit b v).getLsbD i = if i = b.val then true else v.getLsbD i := by
  rw [raiseBit, BitVec.getLsbD_or, BitVec.getLsbD_shiftLeft]
  split <;> simp [hi] <;> omega

end Machine

end Sys2Proof
end

