-- ==== Sys2Proof/Laws/Memory.lean ====
section
/-! SUPPORT. Memory: what a read gives after a write, the canonical form of every operation, and what each access of
the memory interface can answer. The first lemmas hold of every list of cells, canonical or not. -/

namespace Sys2Proof.Machine

theorem Memory.read_erase (m : List Host.Cell) (a x : Nat) :
    Memory.read (Memory.erase a m) x = if x = a then Config.unlistedByte else Memory.read m x := by
  induction m with
  | nil => simp [Memory.erase, Memory.read]
  | cons cell rest ih =>
    obtain ⟨k, v⟩ := cell
    by_cases hk : k = a
    · subst hk
      rw [Memory.erase, if_pos rfl, ih]
      by_cases hx : x = k
      · simp [hx]
      · simp [hx, Memory.read, Ne.symm hx]
    · rw [Memory.erase, if_neg hk, Memory.read, ih, Memory.read]
      by_cases hx : x = a
      · subst hx; simp [hk]
      · simp [hx]

theorem Memory.read_insert_same (m : List Host.Cell) (a : Nat) (v : Byte) :
    Memory.read (Memory.insert a v (Memory.erase a m)) a = v := by
  induction m with
  | nil => simp [Memory.erase, Memory.insert, Memory.read]
  | cons cell rest ih =>
    obtain ⟨k, w⟩ := cell
    by_cases hk : k = a
    · simpa [Memory.erase, hk] using ih
    · simp only [Memory.erase, hk, if_false, Memory.insert]
      split
      · simp [Memory.read]
      · simpa [Memory.read, hk] using ih

theorem Memory.read_insert_other (m : List Host.Cell) (a x : Nat) (v : Byte) (h : x ≠ a) :
    Memory.read (Memory.insert a v m) x = Memory.read m x := by
  induction m with
  | nil => simp [Memory.insert, Memory.read, Ne.symm h]
  | cons cell rest ih =>
    obtain ⟨k, w⟩ := cell
    simp only [Memory.insert]
    split
    · simp [Memory.read, Ne.symm h]
    · simp [Memory.read, ih]

/-- A byte written reads back. -/
theorem Memory.read_write_same (m : List Host.Cell) (a : Nat) (v : Byte) :
    Memory.read (Memory.write m a v) a = v := by
  by_cases hv : v = Config.unlistedByte
  · simp [Memory.write, hv, Memory.read_erase]
  · simp [Memory.write, hv, Memory.read_insert_same]

/-- Every other byte reads as before. -/
theorem Memory.read_write_other (m : List Host.Cell) {a x : Nat} (v : Byte) (h : x ≠ a) :
    Memory.read (Memory.write m a v) x = Memory.read m x := by
  by_cases hv : v = Config.unlistedByte
  · simp [Memory.write, hv, Memory.read_erase, h]
  · simp [Memory.write, hv, Memory.read_insert_other, Memory.read_erase, h]

theorem Memory.wfFrom_cons (low k : Nat) (v : Byte) (rest : List Host.Cell) :
    Memory.wfFrom low ((k, v) :: rest) = true ↔
      low ≤ k ∧ k < 65536 ∧ v ≠ Config.unlistedByte ∧ Memory.wfFrom (k + 1) rest = true := by
  simp [Memory.wfFrom, and_assoc]

theorem Memory.wfFrom_mono {low low' : Nat} (h : low' ≤ low) (m : List Host.Cell)
    (hm : Memory.wfFrom low m = true) : Memory.wfFrom low' m = true := by
  cases m with
  | nil => rfl
  | cons cell rest =>
    obtain ⟨k, v⟩ := cell
    rw [Memory.wfFrom_cons] at hm ⊢
    exact ⟨by omega, hm.2⟩

theorem Memory.wfFrom_erase (a : Nat) (m : List Host.Cell) :
    ∀ low, Memory.wfFrom low m = true → Memory.wfFrom low (Memory.erase a m) = true := by
  induction m with
  | nil => intro _ _; rfl
  | cons cell rest ih =>
    obtain ⟨k, v⟩ := cell
    intro low hm
    rw [Memory.wfFrom_cons] at hm
    by_cases hk : k = a
    · rw [Memory.erase, if_pos hk]
      exact Memory.wfFrom_mono (by omega) _ (ih _ hm.2.2.2)
    · rw [Memory.erase, if_neg hk, Memory.wfFrom_cons]
      exact ⟨hm.1, hm.2.1, hm.2.2.1, ih _ hm.2.2.2⟩

theorem Memory.wfFrom_insert (a : Nat) (v : Byte) (ha : a < 65536) (hv : v ≠ Config.unlistedByte)
    (m : List Host.Cell) :
    ∀ low, low ≤ a → Memory.wfFrom low (Memory.erase a m) = true →
      Memory.wfFrom low (Memory.insert a v (Memory.erase a m)) = true := by
  induction m with
  | nil => intro low hl _; simp [Memory.erase, Memory.insert, Memory.wfFrom, hl, ha, hv]
  | cons cell rest ih =>
    obtain ⟨k, w⟩ := cell
    intro low hl hm
    by_cases hk : k = a
    · simp only [Memory.erase, hk, if_true] at hm ⊢
      exact ih _ hl hm
    · simp only [Memory.erase, hk, if_false] at hm ⊢
      rw [Memory.wfFrom_cons] at hm
      rw [Memory.insert]
      split
      · rw [Memory.wfFrom_cons, Memory.wfFrom_cons]
        exact ⟨hl, ha, hv, by omega, hm.2.1, hm.2.2.1, hm.2.2.2⟩
      · rw [Memory.wfFrom_cons]
        exact ⟨hm.1, hm.2.1, hm.2.2.1, ih _ (by omega) hm.2.2.2⟩

/-- A write keeps the canonical form. -/
theorem Memory.wf_write (m : List Host.Cell) (a : Word) (v : Byte) (hm : Memory.wf m = true) :
    Memory.wf (Memory.write m a.toNat v) = true := by
  have he := Memory.wfFrom_erase a.toNat m 0 hm
  by_cases hv : v = Config.unlistedByte
  · simpa [Memory.write, hv, Memory.wf] using he
  · rw [Memory.write, if_neg hv]
    exact Memory.wfFrom_insert _ _ a.isLt hv m 0 (Nat.zero_le _) he

/-- The memory of the reset state is canonical. -/
theorem Memory.wf_reset : Memory.wf State.reset.mem = true := rfl

/-! ### The byte behind an address after a store -/

@[simp] theorem State.peek_poke_same (s : State) (a : Word) (v : Byte) : (s.poke a v).peek a = v :=
  Memory.read_write_same _ _ _

theorem State.peek_poke_other (s : State) {a x : Word} (v : Byte) (h : x ≠ a) :
    (s.poke a v).peek x = s.peek x :=
  Memory.read_write_other _ _ fun e => h (BitVec.eq_of_toNat_eq e)

theorem State.peek_of_mem {s t : State} (h : t.mem = s.mem) (a : Word) : t.peek a = s.peek a := by
  rw [State.peek, State.peek, h]

/-- An accepted write is a poke if it reaches the RAM, and takes its answer. -/
theorem State.written_eq (s : State) (a : Word) (v : Byte) :
    s.written a v = (if s.keepsWrite a then s.poke a v else s).accessed [a] := by
  unfold State.written
  cases s.keepsWrite a <;> rfl

theorem State.peek_written_same (s : State) (a : Word) (v : Byte) :
    (s.written a v).peek a = if s.keepsWrite a then v else s.peek a := by
  rw [State.written_eq]
  cases s.keepsWrite a
  · rfl
  · exact s.peek_poke_same a v

theorem State.peek_written_other (s : State) {a x : Word} (v : Byte) (h : x ≠ a) :
    (s.written a v).peek x = s.peek x := by
  rw [State.written_eq]
  cases s.keepsWrite a
  · rfl
  · exact s.peek_poke_other v h

theorem State.written_storedAt (s : State) (a : Word) (v : Byte) : StoredAt s (s.written a v) a v :=
  ⟨s.peek_written_same a v, fun _ h => s.peek_written_other v h⟩

theorem State.written_wf (s : State) (a : Word) (v : Byte) (h : Memory.wf s.mem = true) :
    Memory.wf (s.written a v).mem = true := by
  rw [State.written_eq]
  cases s.keepsWrite a
  · exact h
  · exact Memory.wf_write _ _ _ h

/-- Apart from the RAM, an accepted write takes its answer and no more; so after reads, and so two writes. -/
theorem State.written_frame (s : State) (a : Word) (v : Byte) :
    { s.written a v with mem := s.mem } = s.accessed [a] := rfl

theorem State.written_accessed_frame (s : State) (k : List Word) (a : Word) (v : Byte) :
    { (s.accessed k).written a v with mem := s.mem } = s.accessed (k ++ [a]) := by
  rw [← State.accessed_accessed]; rfl

theorem State.written_written_frame (s : State) (a b : Word) (v w : Byte) :
    { (s.written a v).written b w with mem := s.mem } = s.accessed [a, b] := rfl

/-! ### What MEM will answer depends on its own fields alone -/

theorem Answers.next_past_other (answers : List (Word × Answer)) {a x : Word} (h : x ≠ a) :
    Answers.next x (Answers.past a answers) = Answers.next x answers := by
  induction answers with
  | nil => rfl
  | cons entry rest ih =>
    obtain ⟨k, y⟩ := entry
    by_cases hk : k = a
    · subst hk; simp [Answers.past, Answers.next, Ne.symm h]
    · simp [Answers.past, Answers.next, hk, ih]

/-- The order of two accesses cannot be told from the answers left. -/
theorem Answers.past_comm (answers : List (Word × Answer)) (a b : Word) :
    Answers.past a (Answers.past b answers) = Answers.past b (Answers.past a answers) := by
  induction answers with
  | nil => rfl
  | cons entry rest ih =>
    obtain ⟨k, y⟩ := entry
    by_cases ha : k = a <;> by_cases hb : k = b
    · rw [← ha, hb]
    · rw [Answers.past, if_neg hb, Answers.past, if_pos ha, Answers.past, if_pos ha]
    · rw [Answers.past, if_pos hb, Answers.past, if_neg ha, Answers.past, if_pos hb]
    · rw [Answers.past, if_neg hb, Answers.past, if_neg ha, Answers.past, if_neg ha, Answers.past, if_neg hb, ih]

/-- Accesses elsewhere take no answer of this address. -/
theorem State.nextAnswer_accessed {s : State} {x : Word} (k : List Word) (h : x ∉ k) :
    (s.accessed k).nextAnswer x = s.nextAnswer x := by
  induction k generalizing s with
  | nil => rfl
  | cons a rest ih =>
    rw [List.mem_cons, not_or] at h
    rw [show s.accessed (a :: rest) = (s.accessed [a]).accessed rest by simp, ih h.2]
    exact Answers.next_past_other _ h.1

theorem State.canRead_accessed {s : State} {x : Word} (k : List Word) (h : x ∉ k) :
    (s.accessed k).canRead x = s.canRead x := by
  unfold State.canRead; rw [State.nextAnswer_accessed k h]; rfl

theorem State.canWrite_accessed {s : State} {x : Word} (k : List Word) (h : x ∉ k) :
    (s.accessed k).canWrite x = s.canWrite x := by
  unfold State.canWrite; rw [State.nextAnswer_accessed k h]; rfl

theorem State.keepsWrite_accessed {s : State} {x : Word} (k : List Word) (h : x ∉ k) :
    (s.accessed k).keepsWrite x = s.keepsWrite x := by
  unfold State.keepsWrite; rw [State.nextAnswer_accessed k h]; rfl

theorem State.readValue_accessed {s : State} {x : Word} (k : List Word) (h : x ∉ k) :
    (s.accessed k).readValue x = s.readValue x := by
  unfold State.readValue; rw [State.nextAnswer_accessed k h]; rfl

@[simp] theorem State.canRead_setSp (s : State) (v x : Word) : (s.setSp v).canRead x = s.canRead x := rfl
@[simp] theorem State.canWrite_setSp (s : State) (v x : Word) : (s.setSp v).canWrite x = s.canWrite x := rfl
@[simp] theorem State.keepsWrite_setSp (s : State) (v x : Word) : (s.setSp v).keepsWrite x = s.keepsWrite x := rfl
@[simp] theorem State.readValue_setSp (s : State) (v x : Word) : (s.setSp v).readValue x = s.readValue x := rfl
@[simp] theorem State.peek_setSp (s : State) (v x : Word) : (s.setSp v).peek x = s.peek x := rfl
@[simp] theorem State.peek_accessed (s : State) (k : List Word) (x : Word) : (s.accessed k).peek x = s.peek x := rfl

@[simp] theorem State.canRead_written (s : State) (a x : Word) (v : Byte) :
    (s.written a v).canRead x = (s.accessed [a]).canRead x := rfl
@[simp] theorem State.canWrite_written (s : State) (a x : Word) (v : Byte) :
    (s.written a v).canWrite x = (s.accessed [a]).canWrite x := rfl
@[simp] theorem State.keepsWrite_written (s : State) (a x : Word) (v : Byte) :
    (s.written a v).keepsWrite x = (s.accessed [a]).keepsWrite x := rfl

/-- Where no answer of the oracle is pending a read gets the byte of the RAM. -/
theorem State.readValue_of_ram {s : State} {a : Word} (h : s.nextAnswer a = .ram) : s.readValue a = s.peek a := by
  unfold State.readValue; rw [h]

/-- A device answers a read with its value and keeps no write from being accepted; the RAM is not written. -/
theorem State.of_device {s : State} {a : Word} {w : Byte} (h : s.nextAnswer a = .device w) :
    s.canRead a = true ∧ s.readValue a = w ∧ s.canWrite a = true ∧ s.keepsWrite a = false := by
  unfold State.canRead State.readValue State.canWrite State.keepsWrite; rw [h]; exact ⟨rfl, rfl, rfl, rfl⟩

theorem State.of_refuse {s : State} {a : Word} (h : s.nextAnswer a = .refuse) :
    s.canRead a = false ∧ s.canWrite a = false := by
  unfold State.canRead State.canWrite; rw [h]; exact ⟨rfl, rfl⟩

theorem Answers.mem_of_mem_past {answers : List (Word × Answer)} {a : Word} {x : Word × Answer}
    (h : x ∈ Answers.past a answers) : x ∈ answers := by
  induction answers with
  | nil => exact h
  | cons entry rest ih =>
    obtain ⟨k, y⟩ := entry
    by_cases hk : k = a
    · rw [Answers.past, if_pos hk] at h; exact List.mem_cons_of_mem _ h
    · rw [Answers.past, if_neg hk, List.mem_cons] at h
      rcases h with rfl | h
      · exact List.mem_cons_self
      · exact List.mem_cons_of_mem _ (ih h)

theorem Answers.next_mem (answers : List (Word × Answer)) (a : Word) :
    Answers.next a answers = .ram ∨ (a, Answers.next a answers) ∈ answers := by
  induction answers with
  | nil => exact .inl rfl
  | cons entry rest ih =>
    obtain ⟨k, y⟩ := entry
    by_cases hk : k = a
    · subst hk; simp [Answers.next]
    · simp only [Answers.next, hk, if_false]
      exact ih.imp id (List.mem_cons_of_mem _)

/-- A MEM that never refuses goes on never refusing. -/
theorem State.neverRefuses_accessed {s : State} (k : List Word) (h : s.neverRefuses = true) :
    (s.accessed k).neverRefuses = true := by
  induction k generalizing s with
  | nil => exact h
  | cons a rest ih =>
    rw [show s.accessed (a :: rest) = (s.accessed [a]).accessed rest by simp]
    refine ih ?_
    simp only [State.neverRefuses, Bool.and_eq_true, List.all_eq_true] at h ⊢
    exact ⟨h.1, fun x hx => h.2 x (Answers.mem_of_mem_past hx)⟩

theorem State.nextAnswer_of_neverRefuses {s : State} (h : s.neverRefuses = true) (a : Word) :
    s.nextAnswer a ≠ .refuse := by
  simp only [State.neverRefuses, Bool.and_eq_true, List.all_eq_true, decide_eq_true_eq] at h
  rcases Answers.next_mem s.answers a with e | e
  · unfold State.nextAnswer; rw [e]; nofun
  · exact h.2 _ e

theorem State.canRead_of_neverRefuses {s : State} (h : s.neverRefuses = true) (a : Word) : s.canRead a = true := by
  have hn := State.nextAnswer_of_neverRefuses h a
  simp only [State.neverRefuses, Bool.and_eq_true, List.all_eq_true] at h
  unfold State.canRead
  split
  · rw [Bool.not_eq_true', List.any_eq_false]
    intro g hg
    have := (h.1 g hg).1
    simp_all
  · rfl
  · contradiction

theorem State.canWrite_of_neverRefuses {s : State} (h : s.neverRefuses = true) (a : Word) : s.canWrite a = true := by
  have hn := State.nextAnswer_of_neverRefuses h a
  simp only [State.neverRefuses, Bool.and_eq_true, List.all_eq_true] at h
  unfold State.canWrite
  split
  · rw [Bool.not_eq_true', List.any_eq_false]
    intro g hg
    have := (h.1 g hg).2
    simp_all
  · rfl
  · contradiction

/-! ### What each access answers -/

/-- A read answers the byte and takes its answer, or is refused. -/
theorem State.readByte_eq (s : State) (a : Word) :
    (s.canRead a = true ∧ s.readByte a = some (s.readValue a, s.accessed [a])) ∨
      (s.canRead a = false ∧ s.readByte a = none) := by
  cases h : s.canRead a <;> simp [State.readByte, h]

/-- A write answers the written state, or is refused. -/
theorem State.writeByte_eq (s : State) (a : Word) (v : Byte) :
    (s.canWrite a = true ∧ s.writeByte a v = some (s.written a v)) ∨
      (s.canWrite a = false ∧ s.writeByte a v = none) := by
  cases h : s.canWrite a <;> simp [State.writeByte, h]

/-- The state after a push that is accepted. -/
def pushed (s : State) (v : Word) : State :=
  ((s.written (s.sp - 1) (hiByte v)).written (s.sp - 2) (loByte v)).setSp (s.sp - 2)

theorem State.sub_one_ne_sub_two (x : Word) : x - 1 ≠ x - 2 := by intro h; bv_omega

theorem State.push16_eq (s : State) (v : Word) :
    s.push16 v = if s.canPush then some (pushed s v) else none := by
  have h2 : s.sp - 1 - 1 = s.sp - 2 := by bv_omega
  have hw : (s.accessed [s.sp - 1]).canWrite (s.sp - 2) = s.canWrite (s.sp - 2) :=
    State.canWrite_accessed _ (by simp)
  unfold State.push16 State.writeByte State.canPush
  rw [State.canWrite_setSp]
  by_cases h1 : s.canWrite (s.sp - 1) = true
  · rw [if_pos h1, h1, Option.bind_some]
    show (if (s.accessed [s.sp - 1]).canWrite (s.sp - 1 - 1) = true then _ else none) = _
    rw [h2, hw, Bool.true_and]
    split
    · rw [pushed, ← h2]; rfl
    · rfl
  · rw [if_neg h1, Bool.not_eq_true _ |>.mp h1]; rfl

theorem State.pop16_eq (s : State) :
    s.pop16 = if s.canPop then some (s.stackTop, (s.accessed [s.sp, s.sp + 1]).setSp (s.sp + 2)) else none := by
  have hm : s.sp + 1 ∉ [s.sp] := by simp
  unfold State.pop16 State.readByte State.canPop
  by_cases h1 : s.canRead s.sp = true
  · rw [if_pos h1, h1, Bool.true_and, Option.bind_some]
    show Option.bind (if (s.accessed [s.sp]).canRead (s.sp + 1) = true then _ else none) _ = _
    rw [State.canRead_accessed _ hm, State.readValue_accessed _ hm]
    by_cases h2 : s.canRead (s.sp + 1) = true
    · rw [if_pos h2, if_pos h2, Option.bind_some, State.accessed_accessed]; rfl
    · rw [if_neg h2, if_neg h2]; rfl
  · rw [if_neg h1, Bool.not_eq_true _ |>.mp h1]; rfl

theorem pushed_pushedAt (s : State) (v : Word) : PushedAt s (pushed s v) v := by
  have hne := State.sub_one_ne_sub_two s.sp
  refine ⟨?_, ?_, fun x h1 h2 => ?_⟩
  · exact (State.peek_written_other _ _ hne).trans (State.peek_written_same _ _ _)
  · rw [pushed, State.peek_setSp, State.peek_written_same, State.keepsWrite_written,
      State.keepsWrite_accessed _ (by simp), State.peek_written_other _ _ hne.symm]
  · exact (State.peek_written_other _ _ h2).trans (State.peek_written_other _ _ h1)

/-- What a push or a store left is told by the memory alone. -/
theorem pushedAt_of_mem {s t u : State} {v : Word} (h : u.mem = t.mem) (ht : PushedAt s t v) : PushedAt s u v := by
  unfold PushedAt at ht ⊢
  simp only [State.peek_of_mem h]
  exact ht

theorem storedAt_of_mem {s t u : State} {a : Word} {v : Byte} (h : u.mem = t.mem) (ht : StoredAt s t a v) :
    StoredAt s u a v := by
  unfold StoredAt at ht ⊢
  simp only [State.peek_of_mem h]
  exact ht

/-! A push changes SP and the RAM, takes the answers of its two writes, and does nothing else. -/

@[simp] theorem pushed_a (s : State) (v : Word) : (pushed s v).a = s.a := by simp [pushed]
@[simp] theorem pushed_b (s : State) (v : Word) : (pushed s v).b = s.b := by simp [pushed]
@[simp] theorem pushed_c (s : State) (v : Word) : (pushed s v).c = s.c := by simp [pushed]
@[simp] theorem pushed_d (s : State) (v : Word) : (pushed s v).d = s.d := by simp [pushed]
@[simp] theorem pushed_e (s : State) (v : Word) : (pushed s v).e = s.e := by simp [pushed]
@[simp] theorem pushed_h (s : State) (v : Word) : (pushed s v).h = s.h := by simp [pushed]
@[simp] theorem pushed_l (s : State) (v : Word) : (pushed s v).l = s.l := by simp [pushed]
@[simp] theorem pushed_f (s : State) (v : Word) : (pushed s v).f = s.f := by simp [pushed]
@[simp] theorem pushed_pc (s : State) (v : Word) : (pushed s v).pc = s.pc := by simp [pushed]
@[simp] theorem pushed_r (s : State) (v : Word) : (pushed s v).r = s.r := by simp [pushed]
@[simp] theorem pushed_ime (s : State) (v : Word) : (pushed s v).ime = s.ime := by simp [pushed]
@[simp] theorem pushed_halt (s : State) (v : Word) : (pushed s v).halt = s.halt := by simp [pushed]
@[simp] theorem pushed_stop (s : State) (v : Word) : (pushed s v).stop = s.stop := by simp [pushed]
@[simp] theorem pushed_m (s : State) (v : Word) : (pushed s v).m = s.m := by simp [pushed]
@[simp] theorem pushed_t (s : State) (v : Word) : (pushed s v).t = s.t := by simp [pushed]
@[simp] theorem pushed_clkM (s : State) (v : Word) : (pushed s v).clkM = s.clkM := by simp [pushed]
@[simp] theorem pushed_clkT (s : State) (v : Word) : (pushed s v).clkT = s.clkT := by simp [pushed]
@[simp] theorem pushed_regions (s : State) (v : Word) : (pushed s v).regions = s.regions := by simp [pushed]
@[simp] theorem pushed_cbResSet (s : State) (v : Word) : (pushed s v).cbResSet = s.cbResSet := by simp [pushed]
@[simp] theorem pushed_reports (s : State) (v : Word) : (pushed s v).reports = s.reports := by simp [pushed]
@[simp] theorem pushed_sp (s : State) (v : Word) : (pushed s v).sp = s.sp - 2 := by simp [pushed]
@[simp] theorem pushed_answers (s : State) (v : Word) :
    (pushed s v).answers = (s.accessed [s.sp - 1, s.sp - 2]).answers := by simp [pushed]

theorem pushed_wf (s : State) (v : Word) (h : Memory.wf s.mem = true) : Memory.wf (pushed s v).mem = true :=
  State.written_wf _ _ _ (State.written_wf _ _ _ h)

/-- Apart from the RAM, a push moves SP, takes its two answers, and does nothing else. -/
theorem pushed_frame (s : State) (v : Word) :
    { pushed s v with mem := s.mem } = { s.accessed [s.sp - 1, s.sp - 2] with sp := s.sp - 2 } := rfl

end Sys2Proof.Machine
end

