-- ==== Sys2Proof/Laws/Ops.lean ====
section
/-! SUPPORT. What each shared operation answers, in one equation: the operand forms, the word accesses, calls,
returns, pushes, pops, the CB slots. A proof cites these and unfolds none of the operations. -/

namespace Sys2Proof.Machine

theorem orFault_ite {α : Type} (c : Bool) (v : α) (k : α → Res) :
    orFault (if c then some v else none) k = if c then k v else .fault .memFault := by cases c <;> rfl

theorem State.withByteAt_eq (s : State) (a : Word) (k : Byte → State → State) :
    s.withByteAt a k = if s.canRead a then .next (k (s.readValue a) (s.accessed [a])) else .fault .memFault :=
  orFault_ite _ _ _

theorem State.storeThen_eq (s : State) (a : Word) (v : Byte) (k : State → State) :
    s.storeThen a v k = if s.canWrite a then .next (k (s.written a v)) else .fault .memFault :=
  orFault_ite _ _ _

theorem State.modifyByteAt_eq (s : State) (a : Word) (g : Byte → Byte) (k : Byte → State → State) :
    s.modifyByteAt a g k =
      if s.canModify a then
        .next (k (s.readValue a) ((s.accessed [a]).written a (g (s.readValue a))))
      else .fault .memFault := by
  unfold State.modifyByteAt State.readByte State.writeByte State.canModify
  cases s.canRead a
  · rfl
  · show orFault (if (s.accessed [a]).canWrite a = true then _ else none) _ = _
    exact orFault_ite _ _ _

theorem State.readWord_eq (s : State) (a : Word) :
    s.readWord a =
      if s.canRead a && s.canRead (a + 1) then
        some (joinBytes (s.readValue (a + 1)) (s.readValue a), s.accessed [a, a + 1])
      else none := by
  unfold State.readWord State.readByte
  by_cases h1 : s.canRead a = true
  · rw [if_pos h1, h1, Bool.true_and, Option.bind_some]
    show Option.bind (if (s.accessed [a]).canRead (a + 1) = true then _ else none) _ = _
    rw [State.canRead_accessed _ (by simp), State.readValue_accessed _ (by simp), State.accessed_accessed]
    by_cases h2 : s.canRead (a + 1) = true
    · rw [if_pos h2, if_pos h2]; rfl
    · rw [if_neg h2, if_neg h2]; rfl
  · rw [if_neg h1, Bool.not_eq_true _ |>.mp h1]; rfl

theorem State.writeWord_eq (s : State) (a v : Word) :
    s.writeWord a v =
      if s.canWrite a && s.canWrite (a + 1) then some ((s.written a (loByte v)).written (a + 1) (hiByte v))
      else none := by
  unfold State.writeWord State.writeByte
  by_cases h : s.canWrite a = true
  · rw [if_pos h, h, Bool.true_and, Option.bind_some, State.canWrite_written, State.canWrite_accessed _ (by simp)]
  · rw [if_neg h, Bool.not_eq_true _ |>.mp h]; rfl

/-- A call: the state after the push with PC at the target, or the fault of a refused push. -/
theorem callTo_eq (target : Word) (row : CostRow) (s : State) :
    callTo target row s =
      if s.canPush then .next (((pushed s s.pc).setPc target).charge row) else .fault .memFault := by
  rw [callTo, State.push16_eq]; exact orFault_ite _ _ _

/-- A return: PC from the stack, SP past the word, then `k`; or the fault of a refused pop. -/
theorem returnWith_eq (row : CostRow) (k : State → State) (s : State) :
    returnWith row k s =
      if s.canPop then .next ((k (((s.accessed [s.sp, s.sp + 1]).setSp (s.sp + 2)).setPc s.stackTop)).charge row)
      else .fault .memFault := by
  rw [returnWith, State.pop16_eq]; exact orFault_ite _ _ _

theorem pushPair_eq (p : Rp2) (s : State) :
    pushPair p s = if s.canPush then .next ((pushed s (s.rp2 p)).charge .push) else .fault .memFault := by
  rw [pushPair, State.push16_eq]; exact orFault_ite _ _ _

theorem popPair_eq (p : Rp2) (s : State) :
    popPair p s =
      if s.canPop then .next ((((s.accessed [s.sp, s.sp + 1]).setSp (s.sp + 2)).setRp2 p s.stackTop).charge .pop)
      else .fault .memFault := by
  rw [popPair, State.pop16_eq]; exact orFault_ite _ _ _

theorem ldAbsSp_eq (nn : Word) (s : State) :
    ldAbsSp nn s =
      if s.canWrite nn && s.canWrite (nn + 1) then
        .next (((s.written nn (loByte s.sp)).written (nn + 1) (hiByte s.sp)).charge .ldAbsSp)
      else .fault .memFault := by
  rw [ldAbsSp, State.writeWord_eq]; exact orFault_ite _ _ _

theorem ifImplemented_implemented {s : State} (h : s.cbResSet = .implemented) (op2 : Byte) (effect : Res) :
    ifImplemented op2 s effect = effect := by rw [ifImplemented, h]

theorem ifImplemented_illegal {s : State} (h : s.cbResSet = .illegal) (op2 : Byte) (effect : Res) :
    ifImplemented op2 s effect = .next (s.raiseIllegal (s.pc - 2) op2) := by rw [ifImplemented, h]

/-- The host's interrupt entry: nothing on a stopped core, else the push, the vector and the cost, or the fault. -/
theorem State.interruptEntry_eq (s : State) (v : InterruptVector) :
    s.interruptEntry v =
      if s.stop then .next s
      else if s.canPush then
        .next (((pushed { s with halt := false, ime := false } s.pc).setPc (vectorAddress v)).charge .interruptEntry).account
      else .fault .memFault := by
  rw [State.interruptEntry]
  by_cases h : s.stop = true
  · rw [if_pos h, if_pos h]
  · rw [if_neg h, if_neg h, State.push16_eq]; exact orFault_ite s.canPush _ _

/-- A step of a core that is not held, when its bytes are answered. -/
theorem step_of_fetch {s : State} {got : Fetched} (hh : s.haltedOrStopped = false) (hf : s.fetch = some got) :
    step s = accounted (exec got.instr (got.after.advance got.length)) := by
  rw [step, hh, runFetched, hf]; rfl

/-- A step of a core that is not held, when the fetch is refused. -/
theorem step_of_fetch_none {s : State} (hh : s.haltedOrStopped = false) (hf : s.fetch = none) :
    step s = .fault .memFault := by
  rw [step, hh, runFetched, hf]; rfl

/-- A held core does nothing. -/
theorem step_held {s : State} (hh : s.haltedOrStopped = true) : step s = .next s := by rw [step, hh]; rfl

/-- A run of one step more, after a step that reaches a next state. -/
theorem run_succ_of_step {M : Host.Core} {s t : M.State} (k : Nat) (h : M.step s = .next t) :
    M.run (k + 1) s = M.run k t := by
  show (match M.step s with
    | .next s' => M.run k s'
    | .fault r => .fault r
    | .refused r => .refused r) = _
  rw [h]

/-- What a step that reaches a next state did. -/
theorem step_next_cases {s t : State} (h : step s = .next t) :
    (s.haltedOrStopped = true ∧ t = s) ∨
      ∃ got u, s.haltedOrStopped = false ∧ s.fetch = some got ∧
        exec got.instr (got.after.advance got.length) = .next u ∧ t = u.account := by
  cases hh : s.haltedOrStopped
  · right
    cases hf : s.fetch with
    | none => rw [step_of_fetch_none hh hf] at h; cases h
    | some got =>
      rw [step_of_fetch hh hf] at h
      cases hx : exec got.instr (got.after.advance got.length) with
      | next u => rw [hx] at h; cases h; exact ⟨got, u, rfl, rfl, hx, rfl⟩
      | fault x => rw [hx] at h; cases h
      | refused x => rw [hx] at h; cases h
  · left; rw [step_held hh] at h; cases h; exact ⟨rfl, rfl⟩

end Sys2Proof.Machine
end

