-- ==== Sys2Proof/Laws/Dispatch.lean ====
section
/-! SUPPORT. What `exec` runs for each family of instructions of one shape, so that a proof over a family makes no case
split over its instructions. -/

namespace Sys2Proof.Machine

theorem exec_ldRR (dst src : R8) (s : State) : exec (Instr.ldRR dst src) s = ldRegReg dst src s := by
  cases dst <;> cases src <;> rfl

theorem exec_ldRAtHl (dst : R8) (s : State) : exec (Instr.ldRAtHl dst) s = ldRegAtHl dst s := by cases dst <;> rfl

theorem exec_ldAtHlR (src : R8) (s : State) : exec (Instr.ldAtHlR src) s = ldAtHlReg src s := by cases src <;> rfl

theorem exec_ldRN (dst : R8) (n : Byte) (s : State) : exec (Instr.ldRN dst n) s = ldRegImm dst n s := by
  cases dst <;> rfl

theorem exec_ldRpNn (p : Rp) (nn : Word) (s : State) : exec (Instr.ldRpNn p nn) s = ldPairImm p nn s := by
  cases p <;> rfl

theorem exec_push (p : Rp2) (s : State) : exec (Instr.push p) s = pushPair p s := by cases p <;> rfl

theorem exec_pop (p : Rp2) (s : State) : exec (Instr.pop p) s = popPair p s := by cases p <;> rfl

theorem exec_aluR (op : AluOp) (r : R8) (s : State) : exec (Instr.aluR op r) s = aluReg op r s := by
  cases op <;> cases r <;> rfl

theorem exec_aluAtHl (op : AluOp) (s : State) : exec (Instr.aluAtHl op) s = aluAtHl op s := by cases op <;> rfl

theorem exec_aluN (op : AluOp) (n : Byte) (s : State) : exec (Instr.aluN op n) s = aluImm op n s := by
  cases op <;> rfl

theorem exec_incR (r : R8) (s : State) : exec (Instr.incR r) s = incReg r s := by cases r <;> rfl

theorem exec_decR (r : R8) (s : State) : exec (Instr.decR r) s = decReg r s := by cases r <;> rfl

theorem exec_addHlRp (p : Rp) (s : State) : exec (Instr.addHlRp p) s = addHlPair p s := by cases p <;> rfl

theorem exec_incRp (p : Rp) (s : State) : exec (Instr.incRp p) s = incPair p s := by cases p <;> rfl

theorem exec_decRp (p : Rp) (s : State) : exec (Instr.decRp p) s = decPair p s := by cases p <;> rfl

theorem exec_shiftR (op : ShiftOp) (r : R8) (s : State) : exec (Instr.shiftR op r) s = shiftReg op r s := by
  cases op <;> cases r <;> rfl

theorem exec_shiftAtHl (op : ShiftOp) (s : State) : exec (Instr.shiftAtHl op) s = shiftAtHl op s := by
  cases op <;> rfl

theorem exec_bitR (b : Fin 8) (r : R8) (s : State) : exec (Instr.bitR b r) s = bitReg b r s := by
  fin_cases b <;> cases r <;> rfl

theorem exec_bitAtHl (b : Fin 8) (s : State) : exec (Instr.bitAtHl b) s = bitAtHl b s := by fin_cases b <;> rfl

theorem exec_resR (b : Fin 8) (r : R8) (s : State) : exec (Instr.resR b r) s = resReg b r s := by
  fin_cases b <;> cases r <;> rfl

theorem exec_resAtHl (b : Fin 8) (s : State) : exec (Instr.resAtHl b) s = resAtHl b s := by fin_cases b <;> rfl

theorem exec_setR (b : Fin 8) (r : R8) (s : State) : exec (Instr.setR b r) s = setReg b r s := by
  fin_cases b <;> cases r <;> rfl

theorem exec_setAtHl (b : Fin 8) (s : State) : exec (Instr.setAtHl b) s = setAtHl b s := by fin_cases b <;> rfl

theorem exec_jpIf (cc : Cond) (nn : Word) (s : State) : exec (Instr.jpIf cc nn) s = jumpAbsIf cc nn s := by
  cases cc <;> rfl

theorem exec_jrIf (cc : Cond) (e : Byte) (s : State) : exec (Instr.jrIf cc e) s = jumpRelIf cc e s := by
  cases cc <;> rfl

theorem exec_callIf (cc : Cond) (nn : Word) (s : State) : exec (Instr.callIf cc nn) s = callAbsIf cc nn s := by
  cases cc <;> rfl

theorem exec_retIf (cc : Cond) (s : State) : exec (Instr.retIf cc) s = returnIf cc s := by cases cc <;> rfl

theorem exec_rst (y : Fin 8) (s : State) : exec (Instr.rst y) s = restart y s := by fin_cases y <;> rfl

/-- The slot the CB decoder gives runs what the prefix runs. -/
theorem exec_decodeCb (op2 : Byte) (s : State) : exec (decodeCb op2) s = cbDispatch op2 s := by
  unfold decodeCb cbDispatch
  generalize operandOfCode (fieldZ op2) = o
  generalize fieldX op2 = x
  rcases x with _ | _ | _ | x <;> cases o <;>
    simp only [exec_shiftR, exec_shiftAtHl, exec_bitR, exec_bitAtHl, exec_resR, exec_resAtHl, exec_setR, exec_setAtHl]

end Sys2Proof.Machine
end

