-- ==== Sys2Proof/Laws/Fetch.lean ====
section
/-! SUPPORT. What a fetch answers: the bytes an instruction has decide, and no others. -/

namespace Sys2Proof

/-- To prove something of every byte, prove it of the 256 numerals. -/
theorem forall_byte {p : Byte → Prop} (h : ∀ n, n < 256 → p (BitVec.ofNat 8 n)) (b : Byte) : p b := by
  have := h b.toNat b.isLt
  rwa [BitVec.ofNat_toNat, BitVec.setWidth_eq] at this

theorem instrLength_cases (b0 : Byte) : instrLength b0 = 1 ∨ instrLength b0 = 2 ∨ instrLength b0 = 3 := by
  revert b0; decide

/-- A one-byte instruction is told by its byte. -/
theorem decodeBytes_of_length_one {b0 : Byte} (h : instrLength b0 = 1) (b1 b2 : Byte) :
    decodeBytes b0 b1 b2 = decodeBytes b0 0 0 := by
  revert h
  refine forall_byte (p := fun b0 => instrLength b0 = 1 → decodeBytes b0 b1 b2 = decodeBytes b0 0 0) ?_ b0
  intro n hn h
  interval_cases n <;> first | rfl | (exfalso; revert h; decide)

/-- A two-byte instruction is told by its two bytes. -/
theorem decodeBytes_of_length_two {b0 : Byte} (h : instrLength b0 = 2) (b1 b2 : Byte) :
    decodeBytes b0 b1 b2 = decodeBytes b0 b1 0 := by
  revert h
  refine forall_byte (p := fun b0 => instrLength b0 = 2 → decodeBytes b0 b1 b2 = decodeBytes b0 b1 0) ?_ b0
  intro n hn h
  interval_cases n <;> first | exact absurd h (by decide) | rfl

/-- Three bytes or more decode to what the first of them make; the rest is left over. -/
theorem decode_cons (b0 b1 b2 : Byte) (rest : List Byte) :
    decode (b0 :: b1 :: b2 :: rest) =
      .instr (decodeBytes b0 b1 b2) ((b0 :: b1 :: b2 :: rest).drop (instrLength b0)) := by
  unfold decode
  rcases instrLength_cases b0 with h | h | h <;> simp only [h]
  · rw [decodeBytes_of_length_one h b1 b2]; rfl
  · rw [decodeBytes_of_length_two h b1 b2]; rfl
  · rfl

namespace Machine

/-- A fetch in terms of the answers MEM gives its reads. -/
theorem State.fetch_eq (s : State) :
    s.fetch =
      if s.canRead s.pc = true ∧ (2 ≤ instrLength (s.readValue s.pc) → s.canRead (s.pc + 1) = true) ∧
          (instrLength (s.readValue s.pc) = 3 → s.canRead (s.pc + 2) = true) then
        some
          ⟨decodeBytes (s.readValue s.pc) (s.readValue (s.pc + 1)) (s.readValue (s.pc + 2)),
            instrLength (s.readValue s.pc), s.accessed (s.fetchAddresses (instrLength (s.readValue s.pc)))⟩
      else none := by
  have e1 : (s.accessed [s.pc]).readByte (s.pc + 1) =
      if s.canRead (s.pc + 1) then some (s.readValue (s.pc + 1), s.accessed [s.pc, s.pc + 1]) else none := by
    rw [State.readByte, State.canRead_accessed _ (by simp), State.readValue_accessed _ (by simp),
      State.accessed_accessed]; rfl
  have e2 : (s.accessed [s.pc, s.pc + 1]).readByte (s.pc + 2) =
      if s.canRead (s.pc + 2) then some (s.readValue (s.pc + 2), s.accessed [s.pc, s.pc + 1, s.pc + 2]) else none := by
    have h : s.pc + 2 ∉ [s.pc, s.pc + 1] := by
      simp only [List.mem_cons, List.not_mem_nil, or_false, not_or]
      exact ⟨by intro h; bv_omega, by intro h; bv_omega⟩
    rw [State.readByte, State.canRead_accessed _ h, State.readValue_accessed _ h, State.accessed_accessed]; rfl
  have a1 : s.fetchAddresses 1 = [s.pc] := rfl
  have a2 : s.fetchAddresses 2 = [s.pc, s.pc + 1] := rfl
  have a3 : s.fetchAddresses 3 = [s.pc, s.pc + 1, s.pc + 2] := rfl
  unfold State.fetch
  rw [State.readByte]
  generalize s.pc + 1 = p1 at *
  generalize s.pc + 2 = p2 at *
  by_cases h0 : s.canRead s.pc = true
  · rw [if_pos h0, Option.bind_some]
    rcases instrLength_cases (s.readValue s.pc) with e | e | e <;> simp only [e]
    · rw [decodeBytes_of_length_one e (s.readValue p1)]
      simp [h0, a1]
    · rw [e1, decodeBytes_of_length_two e (s.readValue p1)]
      by_cases h1 : s.canRead p1 = true <;> simp [h0, h1, a2]
    · rw [e1]
      by_cases h1 : s.canRead p1 = true
      · rw [if_pos h1, Option.bind_some, e2]
        by_cases h2 : s.canRead p2 = true <;> simp [h0, h1, h2, a3]
      · simp [h0, h1]
  · simp [h0]

/-- A fetch whose first read is refused. -/
theorem State.fetch_refused_opcode {s : State} (h : s.canRead s.pc = false) : s.fetch = none := by
  rw [State.fetch_eq, h]; exact if_neg fun c => by simp at c

/-- A fetch whose second byte is needed and refused. -/
theorem State.fetch_refused_second {s : State} (hl : 2 ≤ instrLength (s.readValue s.pc))
    (h : s.canRead (s.pc + 1) = false) : s.fetch = none := by
  rw [State.fetch_eq]; exact if_neg fun c => by rw [h] at c; exact Bool.noConfusion (c.2.1 hl)

/-- A fetch whose third byte is needed and refused. -/
theorem State.fetch_refused_third {s : State} (hl : instrLength (s.readValue s.pc) = 3)
    (h : s.canRead (s.pc + 2) = false) : s.fetch = none := by
  rw [State.fetch_eq]; exact if_neg fun c => by rw [h] at c; exact Bool.noConfusion (c.2.2 hl)

/-- A fetch whose needed bytes are all answered. -/
theorem State.fetch_answered {s : State} (h0 : s.canRead s.pc = true)
    (h1 : 2 ≤ instrLength (s.readValue s.pc) → s.canRead (s.pc + 1) = true)
    (h2 : instrLength (s.readValue s.pc) = 3 → s.canRead (s.pc + 2) = true) :
    s.fetch =
      some
        ⟨decodeBytes (s.readValue s.pc) (s.readValue (s.pc + 1)) (s.readValue (s.pc + 2)),
          instrLength (s.readValue s.pc), s.accessed (s.fetchAddresses (instrLength (s.readValue s.pc)))⟩ := by
  rw [State.fetch_eq]; exact if_pos ⟨h0, h1, h2⟩

end Machine

end Sys2Proof
end

