-- ==== Sys2Proof/Laws/PerInstr.lean ====
section
/-! SUPPORT. The family Encoding: what the encoding of every instruction, as syntax, is like; one lemma per
constructor. -/

/-- The bytes of an instruction are one, two or three (R60), and as many as its first byte tells (R66). -/
def Sys2Proof.Laws.Encoding.Statement (i : Sys2Proof.Instr) : Prop :=
  ∃ op rest, Sys2Proof.encode i = op :: rest ∧ rest.length + 1 = Sys2Proof.instrLength op ∧ rest.length < 3

namespace Sys2Proof.Laws.Encoding

theorem ldBcNn (nn : Word) : Statement (.ldBcNn nn) :=
  ⟨_, _, rfl, rfl, by simp⟩

theorem ldBN (n : Byte) : Statement (.ldBN n) :=
  ⟨_, _, rfl, rfl, by simp⟩

theorem ldAtNnSp (nn : Word) : Statement (.ldAtNnSp nn) :=
  ⟨_, _, rfl, rfl, by simp⟩

theorem ldCN (n : Byte) : Statement (.ldCN n) :=
  ⟨_, _, rfl, rfl, by simp⟩

theorem djnzE (e : Byte) : Statement (.djnzE e) :=
  ⟨_, _, rfl, rfl, by simp⟩

theorem ldDeNn (nn : Word) : Statement (.ldDeNn nn) :=
  ⟨_, _, rfl, rfl, by simp⟩

theorem ldDN (n : Byte) : Statement (.ldDN n) :=
  ⟨_, _, rfl, rfl, by simp⟩

theorem jrE (e : Byte) : Statement (.jrE e) :=
  ⟨_, _, rfl, rfl, by simp⟩

theorem ldEN (n : Byte) : Statement (.ldEN n) :=
  ⟨_, _, rfl, rfl, by simp⟩

theorem jrNzE (e : Byte) : Statement (.jrNzE e) :=
  ⟨_, _, rfl, rfl, by simp⟩

theorem ldHlNn (nn : Word) : Statement (.ldHlNn nn) :=
  ⟨_, _, rfl, rfl, by simp⟩

theorem ldHN (n : Byte) : Statement (.ldHN n) :=
  ⟨_, _, rfl, rfl, by simp⟩

theorem jrZE (e : Byte) : Statement (.jrZE e) :=
  ⟨_, _, rfl, rfl, by simp⟩

theorem ldLN (n : Byte) : Statement (.ldLN n) :=
  ⟨_, _, rfl, rfl, by simp⟩

theorem jrNcE (e : Byte) : Statement (.jrNcE e) :=
  ⟨_, _, rfl, rfl, by simp⟩

theorem ldSpNn (nn : Word) : Statement (.ldSpNn nn) :=
  ⟨_, _, rfl, rfl, by simp⟩

theorem ldAtHlN (n : Byte) : Statement (.ldAtHlN n) :=
  ⟨_, _, rfl, rfl, by simp⟩

theorem jrCE (e : Byte) : Statement (.jrCE e) :=
  ⟨_, _, rfl, rfl, by simp⟩

theorem ldAN (n : Byte) : Statement (.ldAN n) :=
  ⟨_, _, rfl, rfl, by simp⟩

theorem jpNzNn (nn : Word) : Statement (.jpNzNn nn) :=
  ⟨_, _, rfl, rfl, by simp⟩

theorem jpNn (nn : Word) : Statement (.jpNn nn) :=
  ⟨_, _, rfl, rfl, by simp⟩

theorem callNzNn (nn : Word) : Statement (.callNzNn nn) :=
  ⟨_, _, rfl, rfl, by simp⟩

theorem addAN (n : Byte) : Statement (.addAN n) :=
  ⟨_, _, rfl, rfl, by simp⟩

theorem jpZNn (nn : Word) : Statement (.jpZNn nn) :=
  ⟨_, _, rfl, rfl, by simp⟩

theorem prefixCb (opcode2 : Byte) : Statement (.prefixCb opcode2) :=
  ⟨_, _, rfl, rfl, by simp⟩

theorem callZNn (nn : Word) : Statement (.callZNn nn) :=
  ⟨_, _, rfl, rfl, by simp⟩

theorem callNn (nn : Word) : Statement (.callNn nn) :=
  ⟨_, _, rfl, rfl, by simp⟩

theorem adcAN (n : Byte) : Statement (.adcAN n) :=
  ⟨_, _, rfl, rfl, by simp⟩

theorem jpNcNn (nn : Word) : Statement (.jpNcNn nn) :=
  ⟨_, _, rfl, rfl, by simp⟩

theorem callNcNn (nn : Word) : Statement (.callNcNn nn) :=
  ⟨_, _, rfl, rfl, by simp⟩

theorem subN (n : Byte) : Statement (.subN n) :=
  ⟨_, _, rfl, rfl, by simp⟩

theorem jpCNn (nn : Word) : Statement (.jpCNn nn) :=
  ⟨_, _, rfl, rfl, by simp⟩

theorem callCNn (nn : Word) : Statement (.callCNn nn) :=
  ⟨_, _, rfl, rfl, by simp⟩

theorem sbcAN (n : Byte) : Statement (.sbcAN n) :=
  ⟨_, _, rfl, rfl, by simp⟩

theorem ldhAtNA (n : Byte) : Statement (.ldhAtNA n) :=
  ⟨_, _, rfl, rfl, by simp⟩

theorem andN (n : Byte) : Statement (.andN n) :=
  ⟨_, _, rfl, rfl, by simp⟩

theorem addSpE (e : Byte) : Statement (.addSpE e) :=
  ⟨_, _, rfl, rfl, by simp⟩

theorem ldAtNnA (nn : Word) : Statement (.ldAtNnA nn) :=
  ⟨_, _, rfl, rfl, by simp⟩

theorem xorN (n : Byte) : Statement (.xorN n) :=
  ⟨_, _, rfl, rfl, by simp⟩

theorem ldhAAtN (n : Byte) : Statement (.ldhAAtN n) :=
  ⟨_, _, rfl, rfl, by simp⟩

theorem orN (n : Byte) : Statement (.orN n) :=
  ⟨_, _, rfl, rfl, by simp⟩

theorem ldHlSpE (e : Byte) : Statement (.ldHlSpE e) :=
  ⟨_, _, rfl, rfl, by simp⟩

theorem ldAAtNn (nn : Word) : Statement (.ldAAtNn nn) :=
  ⟨_, _, rfl, rfl, by simp⟩

theorem cpN (n : Byte) : Statement (.cpN n) :=
  ⟨_, _, rfl, rfl, by simp⟩

theorem nop : Statement .nop := ⟨_, _, rfl, rfl, by decide⟩

theorem ldAtBcA : Statement .ldAtBcA := ⟨_, _, rfl, rfl, by decide⟩

theorem incBc : Statement .incBc := ⟨_, _, rfl, rfl, by decide⟩

theorem incB : Statement .incB := ⟨_, _, rfl, rfl, by decide⟩

theorem decB : Statement .decB := ⟨_, _, rfl, rfl, by decide⟩

theorem rlca : Statement .rlca := ⟨_, _, rfl, rfl, by decide⟩

theorem addHlBc : Statement .addHlBc := ⟨_, _, rfl, rfl, by decide⟩

theorem ldAAtBc : Statement .ldAAtBc := ⟨_, _, rfl, rfl, by decide⟩

theorem decBc : Statement .decBc := ⟨_, _, rfl, rfl, by decide⟩

theorem incC : Statement .incC := ⟨_, _, rfl, rfl, by decide⟩

theorem decC : Statement .decC := ⟨_, _, rfl, rfl, by decide⟩

theorem rrca : Statement .rrca := ⟨_, _, rfl, rfl, by decide⟩

theorem ldAtDeA : Statement .ldAtDeA := ⟨_, _, rfl, rfl, by decide⟩

theorem incDe : Statement .incDe := ⟨_, _, rfl, rfl, by decide⟩

theorem incD : Statement .incD := ⟨_, _, rfl, rfl, by decide⟩

theorem decD : Statement .decD := ⟨_, _, rfl, rfl, by decide⟩

theorem rla : Statement .rla := ⟨_, _, rfl, rfl, by decide⟩

theorem addHlDe : Statement .addHlDe := ⟨_, _, rfl, rfl, by decide⟩

theorem ldAAtDe : Statement .ldAAtDe := ⟨_, _, rfl, rfl, by decide⟩

theorem decDe : Statement .decDe := ⟨_, _, rfl, rfl, by decide⟩

theorem incE : Statement .incE := ⟨_, _, rfl, rfl, by decide⟩

theorem decE : Statement .decE := ⟨_, _, rfl, rfl, by decide⟩

theorem rra : Statement .rra := ⟨_, _, rfl, rfl, by decide⟩

theorem ldAtHlIncA : Statement .ldAtHlIncA := ⟨_, _, rfl, rfl, by decide⟩

theorem incHl : Statement .incHl := ⟨_, _, rfl, rfl, by decide⟩

theorem incH : Statement .incH := ⟨_, _, rfl, rfl, by decide⟩

theorem decH : Statement .decH := ⟨_, _, rfl, rfl, by decide⟩

theorem daa : Statement .daa := ⟨_, _, rfl, rfl, by decide⟩

theorem addHlHl : Statement .addHlHl := ⟨_, _, rfl, rfl, by decide⟩

theorem ldAAtHlInc : Statement .ldAAtHlInc := ⟨_, _, rfl, rfl, by decide⟩

theorem decHl : Statement .decHl := ⟨_, _, rfl, rfl, by decide⟩

theorem incL : Statement .incL := ⟨_, _, rfl, rfl, by decide⟩

theorem decL : Statement .decL := ⟨_, _, rfl, rfl, by decide⟩

theorem cpl : Statement .cpl := ⟨_, _, rfl, rfl, by decide⟩

theorem ldAtHlDecA : Statement .ldAtHlDecA := ⟨_, _, rfl, rfl, by decide⟩

theorem incSp : Statement .incSp := ⟨_, _, rfl, rfl, by decide⟩

theorem incAtHl : Statement .incAtHl := ⟨_, _, rfl, rfl, by decide⟩

theorem decAtHl : Statement .decAtHl := ⟨_, _, rfl, rfl, by decide⟩

theorem scf : Statement .scf := ⟨_, _, rfl, rfl, by decide⟩

theorem addHlSp : Statement .addHlSp := ⟨_, _, rfl, rfl, by decide⟩

theorem ldAAtHlDec : Statement .ldAAtHlDec := ⟨_, _, rfl, rfl, by decide⟩

theorem decSp : Statement .decSp := ⟨_, _, rfl, rfl, by decide⟩

theorem incA : Statement .incA := ⟨_, _, rfl, rfl, by decide⟩

theorem decA : Statement .decA := ⟨_, _, rfl, rfl, by decide⟩

theorem ccf : Statement .ccf := ⟨_, _, rfl, rfl, by decide⟩

theorem ldBB : Statement .ldBB := ⟨_, _, rfl, rfl, by decide⟩

theorem ldBC : Statement .ldBC := ⟨_, _, rfl, rfl, by decide⟩

theorem ldBD : Statement .ldBD := ⟨_, _, rfl, rfl, by decide⟩

theorem ldBE : Statement .ldBE := ⟨_, _, rfl, rfl, by decide⟩

theorem ldBH : Statement .ldBH := ⟨_, _, rfl, rfl, by decide⟩

theorem ldBL : Statement .ldBL := ⟨_, _, rfl, rfl, by decide⟩

theorem ldBAtHl : Statement .ldBAtHl := ⟨_, _, rfl, rfl, by decide⟩

theorem ldBA : Statement .ldBA := ⟨_, _, rfl, rfl, by decide⟩

theorem ldCB : Statement .ldCB := ⟨_, _, rfl, rfl, by decide⟩

theorem ldCC : Statement .ldCC := ⟨_, _, rfl, rfl, by decide⟩

theorem ldCD : Statement .ldCD := ⟨_, _, rfl, rfl, by decide⟩

theorem ldCE : Statement .ldCE := ⟨_, _, rfl, rfl, by decide⟩

theorem ldCH : Statement .ldCH := ⟨_, _, rfl, rfl, by decide⟩

theorem ldCL : Statement .ldCL := ⟨_, _, rfl, rfl, by decide⟩

theorem ldCAtHl : Statement .ldCAtHl := ⟨_, _, rfl, rfl, by decide⟩

theorem ldCA : Statement .ldCA := ⟨_, _, rfl, rfl, by decide⟩

theorem ldDB : Statement .ldDB := ⟨_, _, rfl, rfl, by decide⟩

theorem ldDC : Statement .ldDC := ⟨_, _, rfl, rfl, by decide⟩

theorem ldDD : Statement .ldDD := ⟨_, _, rfl, rfl, by decide⟩

theorem ldDE : Statement .ldDE := ⟨_, _, rfl, rfl, by decide⟩

theorem ldDH : Statement .ldDH := ⟨_, _, rfl, rfl, by decide⟩

theorem ldDL : Statement .ldDL := ⟨_, _, rfl, rfl, by decide⟩

theorem ldDAtHl : Statement .ldDAtHl := ⟨_, _, rfl, rfl, by decide⟩

theorem ldDA : Statement .ldDA := ⟨_, _, rfl, rfl, by decide⟩

theorem ldEB : Statement .ldEB := ⟨_, _, rfl, rfl, by decide⟩

theorem ldEC : Statement .ldEC := ⟨_, _, rfl, rfl, by decide⟩

theorem ldED : Statement .ldED := ⟨_, _, rfl, rfl, by decide⟩

theorem ldEE : Statement .ldEE := ⟨_, _, rfl, rfl, by decide⟩

theorem ldEH : Statement .ldEH := ⟨_, _, rfl, rfl, by decide⟩

theorem ldEL : Statement .ldEL := ⟨_, _, rfl, rfl, by decide⟩

theorem ldEAtHl : Statement .ldEAtHl := ⟨_, _, rfl, rfl, by decide⟩

theorem ldEA : Statement .ldEA := ⟨_, _, rfl, rfl, by decide⟩

theorem ldHB : Statement .ldHB := ⟨_, _, rfl, rfl, by decide⟩

theorem ldHC : Statement .ldHC := ⟨_, _, rfl, rfl, by decide⟩

theorem ldHD : Statement .ldHD := ⟨_, _, rfl, rfl, by decide⟩

theorem ldHE : Statement .ldHE := ⟨_, _, rfl, rfl, by decide⟩

theorem ldHH : Statement .ldHH := ⟨_, _, rfl, rfl, by decide⟩

theorem ldHL : Statement .ldHL := ⟨_, _, rfl, rfl, by decide⟩

theorem ldHAtHl : Statement .ldHAtHl := ⟨_, _, rfl, rfl, by decide⟩

theorem ldHA : Statement .ldHA := ⟨_, _, rfl, rfl, by decide⟩

theorem ldLB : Statement .ldLB := ⟨_, _, rfl, rfl, by decide⟩

theorem ldLC : Statement .ldLC := ⟨_, _, rfl, rfl, by decide⟩

theorem ldLD : Statement .ldLD := ⟨_, _, rfl, rfl, by decide⟩

theorem ldLE : Statement .ldLE := ⟨_, _, rfl, rfl, by decide⟩

theorem ldLH : Statement .ldLH := ⟨_, _, rfl, rfl, by decide⟩

theorem ldLL : Statement .ldLL := ⟨_, _, rfl, rfl, by decide⟩

theorem ldLAtHl : Statement .ldLAtHl := ⟨_, _, rfl, rfl, by decide⟩

theorem ldLA : Statement .ldLA := ⟨_, _, rfl, rfl, by decide⟩

theorem ldAtHlB : Statement .ldAtHlB := ⟨_, _, rfl, rfl, by decide⟩

theorem ldAtHlC : Statement .ldAtHlC := ⟨_, _, rfl, rfl, by decide⟩

theorem ldAtHlD : Statement .ldAtHlD := ⟨_, _, rfl, rfl, by decide⟩

theorem ldAtHlE : Statement .ldAtHlE := ⟨_, _, rfl, rfl, by decide⟩

theorem ldAtHlH : Statement .ldAtHlH := ⟨_, _, rfl, rfl, by decide⟩

theorem ldAtHlL : Statement .ldAtHlL := ⟨_, _, rfl, rfl, by decide⟩

theorem halt : Statement .halt := ⟨_, _, rfl, rfl, by decide⟩

theorem ldAtHlA : Statement .ldAtHlA := ⟨_, _, rfl, rfl, by decide⟩

theorem ldAB : Statement .ldAB := ⟨_, _, rfl, rfl, by decide⟩

theorem ldAC : Statement .ldAC := ⟨_, _, rfl, rfl, by decide⟩

theorem ldAD : Statement .ldAD := ⟨_, _, rfl, rfl, by decide⟩

theorem ldAE : Statement .ldAE := ⟨_, _, rfl, rfl, by decide⟩

theorem ldAH : Statement .ldAH := ⟨_, _, rfl, rfl, by decide⟩

theorem ldAL : Statement .ldAL := ⟨_, _, rfl, rfl, by decide⟩

theorem ldAAtHl : Statement .ldAAtHl := ⟨_, _, rfl, rfl, by decide⟩

theorem ldAA : Statement .ldAA := ⟨_, _, rfl, rfl, by decide⟩

theorem addAB : Statement .addAB := ⟨_, _, rfl, rfl, by decide⟩

theorem addAC : Statement .addAC := ⟨_, _, rfl, rfl, by decide⟩

theorem addAD : Statement .addAD := ⟨_, _, rfl, rfl, by decide⟩

theorem addAE : Statement .addAE := ⟨_, _, rfl, rfl, by decide⟩

theorem addAH : Statement .addAH := ⟨_, _, rfl, rfl, by decide⟩

theorem addAL : Statement .addAL := ⟨_, _, rfl, rfl, by decide⟩

theorem addAAtHl : Statement .addAAtHl := ⟨_, _, rfl, rfl, by decide⟩

theorem addAA : Statement .addAA := ⟨_, _, rfl, rfl, by decide⟩

theorem adcAB : Statement .adcAB := ⟨_, _, rfl, rfl, by decide⟩

theorem adcAC : Statement .adcAC := ⟨_, _, rfl, rfl, by decide⟩

theorem adcAD : Statement .adcAD := ⟨_, _, rfl, rfl, by decide⟩

theorem adcAE : Statement .adcAE := ⟨_, _, rfl, rfl, by decide⟩

theorem adcAH : Statement .adcAH := ⟨_, _, rfl, rfl, by decide⟩

theorem adcAL : Statement .adcAL := ⟨_, _, rfl, rfl, by decide⟩

theorem adcAAtHl : Statement .adcAAtHl := ⟨_, _, rfl, rfl, by decide⟩

theorem adcAA : Statement .adcAA := ⟨_, _, rfl, rfl, by decide⟩

theorem subB : Statement .subB := ⟨_, _, rfl, rfl, by decide⟩

theorem subC : Statement .subC := ⟨_, _, rfl, rfl, by decide⟩

theorem subD : Statement .subD := ⟨_, _, rfl, rfl, by decide⟩

theorem subE : Statement .subE := ⟨_, _, rfl, rfl, by decide⟩

theorem subH : Statement .subH := ⟨_, _, rfl, rfl, by decide⟩

theorem subL : Statement .subL := ⟨_, _, rfl, rfl, by decide⟩

theorem subAtHl : Statement .subAtHl := ⟨_, _, rfl, rfl, by decide⟩

theorem subA : Statement .subA := ⟨_, _, rfl, rfl, by decide⟩

theorem sbcAB : Statement .sbcAB := ⟨_, _, rfl, rfl, by decide⟩

theorem sbcAC : Statement .sbcAC := ⟨_, _, rfl, rfl, by decide⟩

theorem sbcAD : Statement .sbcAD := ⟨_, _, rfl, rfl, by decide⟩

theorem sbcAE : Statement .sbcAE := ⟨_, _, rfl, rfl, by decide⟩

theorem sbcAH : Statement .sbcAH := ⟨_, _, rfl, rfl, by decide⟩

theorem sbcAL : Statement .sbcAL := ⟨_, _, rfl, rfl, by decide⟩

theorem sbcAAtHl : Statement .sbcAAtHl := ⟨_, _, rfl, rfl, by decide⟩

theorem sbcAA : Statement .sbcAA := ⟨_, _, rfl, rfl, by decide⟩

theorem andB : Statement .andB := ⟨_, _, rfl, rfl, by decide⟩

theorem andC : Statement .andC := ⟨_, _, rfl, rfl, by decide⟩

theorem andD : Statement .andD := ⟨_, _, rfl, rfl, by decide⟩

theorem andE : Statement .andE := ⟨_, _, rfl, rfl, by decide⟩

theorem andH : Statement .andH := ⟨_, _, rfl, rfl, by decide⟩

theorem andL : Statement .andL := ⟨_, _, rfl, rfl, by decide⟩

theorem andAtHl : Statement .andAtHl := ⟨_, _, rfl, rfl, by decide⟩

theorem andA : Statement .andA := ⟨_, _, rfl, rfl, by decide⟩

theorem xorB : Statement .xorB := ⟨_, _, rfl, rfl, by decide⟩

theorem xorC : Statement .xorC := ⟨_, _, rfl, rfl, by decide⟩

theorem xorD : Statement .xorD := ⟨_, _, rfl, rfl, by decide⟩

theorem xorE : Statement .xorE := ⟨_, _, rfl, rfl, by decide⟩

theorem xorH : Statement .xorH := ⟨_, _, rfl, rfl, by decide⟩

theorem xorL : Statement .xorL := ⟨_, _, rfl, rfl, by decide⟩

theorem xorAtHl : Statement .xorAtHl := ⟨_, _, rfl, rfl, by decide⟩

theorem xorA : Statement .xorA := ⟨_, _, rfl, rfl, by decide⟩

theorem orB : Statement .orB := ⟨_, _, rfl, rfl, by decide⟩

theorem orC : Statement .orC := ⟨_, _, rfl, rfl, by decide⟩

theorem orD : Statement .orD := ⟨_, _, rfl, rfl, by decide⟩

theorem orE : Statement .orE := ⟨_, _, rfl, rfl, by decide⟩

theorem orH : Statement .orH := ⟨_, _, rfl, rfl, by decide⟩

theorem orL : Statement .orL := ⟨_, _, rfl, rfl, by decide⟩

theorem orAtHl : Statement .orAtHl := ⟨_, _, rfl, rfl, by decide⟩

theorem orA : Statement .orA := ⟨_, _, rfl, rfl, by decide⟩

theorem cpB : Statement .cpB := ⟨_, _, rfl, rfl, by decide⟩

theorem cpC : Statement .cpC := ⟨_, _, rfl, rfl, by decide⟩

theorem cpD : Statement .cpD := ⟨_, _, rfl, rfl, by decide⟩

theorem cpE : Statement .cpE := ⟨_, _, rfl, rfl, by decide⟩

theorem cpH : Statement .cpH := ⟨_, _, rfl, rfl, by decide⟩

theorem cpL : Statement .cpL := ⟨_, _, rfl, rfl, by decide⟩

theorem cpAtHl : Statement .cpAtHl := ⟨_, _, rfl, rfl, by decide⟩

theorem cpA : Statement .cpA := ⟨_, _, rfl, rfl, by decide⟩

theorem retNz : Statement .retNz := ⟨_, _, rfl, rfl, by decide⟩

theorem popBc : Statement .popBc := ⟨_, _, rfl, rfl, by decide⟩

theorem pushBc : Statement .pushBc := ⟨_, _, rfl, rfl, by decide⟩

theorem rst00 : Statement .rst00 := ⟨_, _, rfl, rfl, by decide⟩

theorem retZ : Statement .retZ := ⟨_, _, rfl, rfl, by decide⟩

theorem ret : Statement .ret := ⟨_, _, rfl, rfl, by decide⟩

theorem rst08 : Statement .rst08 := ⟨_, _, rfl, rfl, by decide⟩

theorem retNc : Statement .retNc := ⟨_, _, rfl, rfl, by decide⟩

theorem popDe : Statement .popDe := ⟨_, _, rfl, rfl, by decide⟩

theorem illegalD3 : Statement .illegalD3 := ⟨_, _, rfl, rfl, by decide⟩

theorem pushDe : Statement .pushDe := ⟨_, _, rfl, rfl, by decide⟩

theorem rst10 : Statement .rst10 := ⟨_, _, rfl, rfl, by decide⟩

theorem retC : Statement .retC := ⟨_, _, rfl, rfl, by decide⟩

theorem reti : Statement .reti := ⟨_, _, rfl, rfl, by decide⟩

theorem illegalDB : Statement .illegalDB := ⟨_, _, rfl, rfl, by decide⟩

theorem illegalDD : Statement .illegalDD := ⟨_, _, rfl, rfl, by decide⟩

theorem rst18 : Statement .rst18 := ⟨_, _, rfl, rfl, by decide⟩

theorem popHl : Statement .popHl := ⟨_, _, rfl, rfl, by decide⟩

theorem ldAtCA : Statement .ldAtCA := ⟨_, _, rfl, rfl, by decide⟩

theorem illegalE3 : Statement .illegalE3 := ⟨_, _, rfl, rfl, by decide⟩

theorem illegalE4 : Statement .illegalE4 := ⟨_, _, rfl, rfl, by decide⟩

theorem pushHl : Statement .pushHl := ⟨_, _, rfl, rfl, by decide⟩

theorem rst20 : Statement .rst20 := ⟨_, _, rfl, rfl, by decide⟩

theorem jpHl : Statement .jpHl := ⟨_, _, rfl, rfl, by decide⟩

theorem illegalEB : Statement .illegalEB := ⟨_, _, rfl, rfl, by decide⟩

theorem illegalEC : Statement .illegalEC := ⟨_, _, rfl, rfl, by decide⟩

theorem illegalED : Statement .illegalED := ⟨_, _, rfl, rfl, by decide⟩

theorem rst28 : Statement .rst28 := ⟨_, _, rfl, rfl, by decide⟩

theorem popAf : Statement .popAf := ⟨_, _, rfl, rfl, by decide⟩

theorem ldAAtC : Statement .ldAAtC := ⟨_, _, rfl, rfl, by decide⟩

theorem di : Statement .di := ⟨_, _, rfl, rfl, by decide⟩

theorem illegalF4 : Statement .illegalF4 := ⟨_, _, rfl, rfl, by decide⟩

theorem pushAf : Statement .pushAf := ⟨_, _, rfl, rfl, by decide⟩

theorem rst30 : Statement .rst30 := ⟨_, _, rfl, rfl, by decide⟩

theorem ldSpHl : Statement .ldSpHl := ⟨_, _, rfl, rfl, by decide⟩

theorem ei : Statement .ei := ⟨_, _, rfl, rfl, by decide⟩

theorem illegalFC : Statement .illegalFC := ⟨_, _, rfl, rfl, by decide⟩

theorem illegalFD : Statement .illegalFD := ⟨_, _, rfl, rfl, by decide⟩

theorem rst38 : Statement .rst38 := ⟨_, _, rfl, rfl, by decide⟩

theorem rlcB : Statement .rlcB := ⟨_, _, rfl, rfl, by decide⟩

theorem rlcC : Statement .rlcC := ⟨_, _, rfl, rfl, by decide⟩

theorem rlcD : Statement .rlcD := ⟨_, _, rfl, rfl, by decide⟩

theorem rlcE : Statement .rlcE := ⟨_, _, rfl, rfl, by decide⟩

theorem rlcH : Statement .rlcH := ⟨_, _, rfl, rfl, by decide⟩

theorem rlcL : Statement .rlcL := ⟨_, _, rfl, rfl, by decide⟩

theorem rlcAtHl : Statement .rlcAtHl := ⟨_, _, rfl, rfl, by decide⟩

theorem rlcA : Statement .rlcA := ⟨_, _, rfl, rfl, by decide⟩

theorem rrcB : Statement .rrcB := ⟨_, _, rfl, rfl, by decide⟩

theorem rrcC : Statement .rrcC := ⟨_, _, rfl, rfl, by decide⟩

theorem rrcD : Statement .rrcD := ⟨_, _, rfl, rfl, by decide⟩

theorem rrcE : Statement .rrcE := ⟨_, _, rfl, rfl, by decide⟩

theorem rrcH : Statement .rrcH := ⟨_, _, rfl, rfl, by decide⟩

theorem rrcL : Statement .rrcL := ⟨_, _, rfl, rfl, by decide⟩

theorem rrcAtHl : Statement .rrcAtHl := ⟨_, _, rfl, rfl, by decide⟩

theorem rrcA : Statement .rrcA := ⟨_, _, rfl, rfl, by decide⟩

theorem rlB : Statement .rlB := ⟨_, _, rfl, rfl, by decide⟩

theorem rlC : Statement .rlC := ⟨_, _, rfl, rfl, by decide⟩

theorem rlD : Statement .rlD := ⟨_, _, rfl, rfl, by decide⟩

theorem rlE : Statement .rlE := ⟨_, _, rfl, rfl, by decide⟩

theorem rlH : Statement .rlH := ⟨_, _, rfl, rfl, by decide⟩

theorem rlL : Statement .rlL := ⟨_, _, rfl, rfl, by decide⟩

theorem rlAtHl : Statement .rlAtHl := ⟨_, _, rfl, rfl, by decide⟩

theorem rlA : Statement .rlA := ⟨_, _, rfl, rfl, by decide⟩

theorem rrB : Statement .rrB := ⟨_, _, rfl, rfl, by decide⟩

theorem rrC : Statement .rrC := ⟨_, _, rfl, rfl, by decide⟩

theorem rrD : Statement .rrD := ⟨_, _, rfl, rfl, by decide⟩

theorem rrE : Statement .rrE := ⟨_, _, rfl, rfl, by decide⟩

theorem rrH : Statement .rrH := ⟨_, _, rfl, rfl, by decide⟩

theorem rrL : Statement .rrL := ⟨_, _, rfl, rfl, by decide⟩

theorem rrAtHl : Statement .rrAtHl := ⟨_, _, rfl, rfl, by decide⟩

theorem rrA : Statement .rrA := ⟨_, _, rfl, rfl, by decide⟩

theorem slaB : Statement .slaB := ⟨_, _, rfl, rfl, by decide⟩

theorem slaC : Statement .slaC := ⟨_, _, rfl, rfl, by decide⟩

theorem slaD : Statement .slaD := ⟨_, _, rfl, rfl, by decide⟩

theorem slaE : Statement .slaE := ⟨_, _, rfl, rfl, by decide⟩

theorem slaH : Statement .slaH := ⟨_, _, rfl, rfl, by decide⟩

theorem slaL : Statement .slaL := ⟨_, _, rfl, rfl, by decide⟩

theorem slaAtHl : Statement .slaAtHl := ⟨_, _, rfl, rfl, by decide⟩

theorem slaA : Statement .slaA := ⟨_, _, rfl, rfl, by decide⟩

theorem sraB : Statement .sraB := ⟨_, _, rfl, rfl, by decide⟩

theorem sraC : Statement .sraC := ⟨_, _, rfl, rfl, by decide⟩

theorem sraD : Statement .sraD := ⟨_, _, rfl, rfl, by decide⟩

theorem sraE : Statement .sraE := ⟨_, _, rfl, rfl, by decide⟩

theorem sraH : Statement .sraH := ⟨_, _, rfl, rfl, by decide⟩

theorem sraL : Statement .sraL := ⟨_, _, rfl, rfl, by decide⟩

theorem sraAtHl : Statement .sraAtHl := ⟨_, _, rfl, rfl, by decide⟩

theorem sraA : Statement .sraA := ⟨_, _, rfl, rfl, by decide⟩

theorem swapB : Statement .swapB := ⟨_, _, rfl, rfl, by decide⟩

theorem swapC : Statement .swapC := ⟨_, _, rfl, rfl, by decide⟩

theorem swapD : Statement .swapD := ⟨_, _, rfl, rfl, by decide⟩

theorem swapE : Statement .swapE := ⟨_, _, rfl, rfl, by decide⟩

theorem swapH : Statement .swapH := ⟨_, _, rfl, rfl, by decide⟩

theorem swapL : Statement .swapL := ⟨_, _, rfl, rfl, by decide⟩

theorem swapAtHl : Statement .swapAtHl := ⟨_, _, rfl, rfl, by decide⟩

theorem swapA : Statement .swapA := ⟨_, _, rfl, rfl, by decide⟩

theorem srlB : Statement .srlB := ⟨_, _, rfl, rfl, by decide⟩

theorem srlC : Statement .srlC := ⟨_, _, rfl, rfl, by decide⟩

theorem srlD : Statement .srlD := ⟨_, _, rfl, rfl, by decide⟩

theorem srlE : Statement .srlE := ⟨_, _, rfl, rfl, by decide⟩

theorem srlH : Statement .srlH := ⟨_, _, rfl, rfl, by decide⟩

theorem srlL : Statement .srlL := ⟨_, _, rfl, rfl, by decide⟩

theorem srlAtHl : Statement .srlAtHl := ⟨_, _, rfl, rfl, by decide⟩

theorem srlA : Statement .srlA := ⟨_, _, rfl, rfl, by decide⟩

theorem bit0B : Statement .bit0B := ⟨_, _, rfl, rfl, by decide⟩

theorem bit0C : Statement .bit0C := ⟨_, _, rfl, rfl, by decide⟩

theorem bit0D : Statement .bit0D := ⟨_, _, rfl, rfl, by decide⟩

theorem bit0E : Statement .bit0E := ⟨_, _, rfl, rfl, by decide⟩

theorem bit0H : Statement .bit0H := ⟨_, _, rfl, rfl, by decide⟩

theorem bit0L : Statement .bit0L := ⟨_, _, rfl, rfl, by decide⟩

theorem bit0AtHl : Statement .bit0AtHl := ⟨_, _, rfl, rfl, by decide⟩

theorem bit0A : Statement .bit0A := ⟨_, _, rfl, rfl, by decide⟩

theorem bit1B : Statement .bit1B := ⟨_, _, rfl, rfl, by decide⟩

theorem bit1C : Statement .bit1C := ⟨_, _, rfl, rfl, by decide⟩

theorem bit1D : Statement .bit1D := ⟨_, _, rfl, rfl, by decide⟩

theorem bit1E : Statement .bit1E := ⟨_, _, rfl, rfl, by decide⟩

theorem bit1H : Statement .bit1H := ⟨_, _, rfl, rfl, by decide⟩

theorem bit1L : Statement .bit1L := ⟨_, _, rfl, rfl, by decide⟩

theorem bit1AtHl : Statement .bit1AtHl := ⟨_, _, rfl, rfl, by decide⟩

theorem bit1A : Statement .bit1A := ⟨_, _, rfl, rfl, by decide⟩

theorem bit2B : Statement .bit2B := ⟨_, _, rfl, rfl, by decide⟩

theorem bit2C : Statement .bit2C := ⟨_, _, rfl, rfl, by decide⟩

theorem bit2D : Statement .bit2D := ⟨_, _, rfl, rfl, by decide⟩

theorem bit2E : Statement .bit2E := ⟨_, _, rfl, rfl, by decide⟩

theorem bit2H : Statement .bit2H := ⟨_, _, rfl, rfl, by decide⟩

theorem bit2L : Statement .bit2L := ⟨_, _, rfl, rfl, by decide⟩

theorem bit2AtHl : Statement .bit2AtHl := ⟨_, _, rfl, rfl, by decide⟩

theorem bit2A : Statement .bit2A := ⟨_, _, rfl, rfl, by decide⟩

theorem bit3B : Statement .bit3B := ⟨_, _, rfl, rfl, by decide⟩

theorem bit3C : Statement .bit3C := ⟨_, _, rfl, rfl, by decide⟩

theorem bit3D : Statement .bit3D := ⟨_, _, rfl, rfl, by decide⟩

theorem bit3E : Statement .bit3E := ⟨_, _, rfl, rfl, by decide⟩

theorem bit3H : Statement .bit3H := ⟨_, _, rfl, rfl, by decide⟩

theorem bit3L : Statement .bit3L := ⟨_, _, rfl, rfl, by decide⟩

theorem bit3AtHl : Statement .bit3AtHl := ⟨_, _, rfl, rfl, by decide⟩

theorem bit3A : Statement .bit3A := ⟨_, _, rfl, rfl, by decide⟩

theorem bit4B : Statement .bit4B := ⟨_, _, rfl, rfl, by decide⟩

theorem bit4C : Statement .bit4C := ⟨_, _, rfl, rfl, by decide⟩

theorem bit4D : Statement .bit4D := ⟨_, _, rfl, rfl, by decide⟩

theorem bit4E : Statement .bit4E := ⟨_, _, rfl, rfl, by decide⟩

theorem bit4H : Statement .bit4H := ⟨_, _, rfl, rfl, by decide⟩

theorem bit4L : Statement .bit4L := ⟨_, _, rfl, rfl, by decide⟩

theorem bit4AtHl : Statement .bit4AtHl := ⟨_, _, rfl, rfl, by decide⟩

theorem bit4A : Statement .bit4A := ⟨_, _, rfl, rfl, by decide⟩

theorem bit5B : Statement .bit5B := ⟨_, _, rfl, rfl, by decide⟩

theorem bit5C : Statement .bit5C := ⟨_, _, rfl, rfl, by decide⟩

theorem bit5D : Statement .bit5D := ⟨_, _, rfl, rfl, by decide⟩

theorem bit5E : Statement .bit5E := ⟨_, _, rfl, rfl, by decide⟩

theorem bit5H : Statement .bit5H := ⟨_, _, rfl, rfl, by decide⟩

theorem bit5L : Statement .bit5L := ⟨_, _, rfl, rfl, by decide⟩

theorem bit5AtHl : Statement .bit5AtHl := ⟨_, _, rfl, rfl, by decide⟩

theorem bit5A : Statement .bit5A := ⟨_, _, rfl, rfl, by decide⟩

theorem bit6B : Statement .bit6B := ⟨_, _, rfl, rfl, by decide⟩

theorem bit6C : Statement .bit6C := ⟨_, _, rfl, rfl, by decide⟩

theorem bit6D : Statement .bit6D := ⟨_, _, rfl, rfl, by decide⟩

theorem bit6E : Statement .bit6E := ⟨_, _, rfl, rfl, by decide⟩

theorem bit6H : Statement .bit6H := ⟨_, _, rfl, rfl, by decide⟩

theorem bit6L : Statement .bit6L := ⟨_, _, rfl, rfl, by decide⟩

theorem bit6AtHl : Statement .bit6AtHl := ⟨_, _, rfl, rfl, by decide⟩

theorem bit6A : Statement .bit6A := ⟨_, _, rfl, rfl, by decide⟩

theorem bit7B : Statement .bit7B := ⟨_, _, rfl, rfl, by decide⟩

theorem bit7C : Statement .bit7C := ⟨_, _, rfl, rfl, by decide⟩

theorem bit7D : Statement .bit7D := ⟨_, _, rfl, rfl, by decide⟩

theorem bit7E : Statement .bit7E := ⟨_, _, rfl, rfl, by decide⟩

theorem bit7H : Statement .bit7H := ⟨_, _, rfl, rfl, by decide⟩

theorem bit7L : Statement .bit7L := ⟨_, _, rfl, rfl, by decide⟩

theorem bit7AtHl : Statement .bit7AtHl := ⟨_, _, rfl, rfl, by decide⟩

theorem bit7A : Statement .bit7A := ⟨_, _, rfl, rfl, by decide⟩

theorem res0B : Statement .res0B := ⟨_, _, rfl, rfl, by decide⟩

theorem res0C : Statement .res0C := ⟨_, _, rfl, rfl, by decide⟩

theorem res0D : Statement .res0D := ⟨_, _, rfl, rfl, by decide⟩

theorem res0E : Statement .res0E := ⟨_, _, rfl, rfl, by decide⟩

theorem res0H : Statement .res0H := ⟨_, _, rfl, rfl, by decide⟩

theorem res0L : Statement .res0L := ⟨_, _, rfl, rfl, by decide⟩

theorem res0AtHl : Statement .res0AtHl := ⟨_, _, rfl, rfl, by decide⟩

theorem res0A : Statement .res0A := ⟨_, _, rfl, rfl, by decide⟩

theorem res1B : Statement .res1B := ⟨_, _, rfl, rfl, by decide⟩

theorem res1C : Statement .res1C := ⟨_, _, rfl, rfl, by decide⟩

theorem res1D : Statement .res1D := ⟨_, _, rfl, rfl, by decide⟩

theorem res1E : Statement .res1E := ⟨_, _, rfl, rfl, by decide⟩

theorem res1H : Statement .res1H := ⟨_, _, rfl, rfl, by decide⟩

theorem res1L : Statement .res1L := ⟨_, _, rfl, rfl, by decide⟩

theorem res1AtHl : Statement .res1AtHl := ⟨_, _, rfl, rfl, by decide⟩

theorem res1A : Statement .res1A := ⟨_, _, rfl, rfl, by decide⟩

theorem res2B : Statement .res2B := ⟨_, _, rfl, rfl, by decide⟩

theorem res2C : Statement .res2C := ⟨_, _, rfl, rfl, by decide⟩

theorem res2D : Statement .res2D := ⟨_, _, rfl, rfl, by decide⟩

theorem res2E : Statement .res2E := ⟨_, _, rfl, rfl, by decide⟩

theorem res2H : Statement .res2H := ⟨_, _, rfl, rfl, by decide⟩

theorem res2L : Statement .res2L := ⟨_, _, rfl, rfl, by decide⟩

theorem res2AtHl : Statement .res2AtHl := ⟨_, _, rfl, rfl, by decide⟩

theorem res2A : Statement .res2A := ⟨_, _, rfl, rfl, by decide⟩

theorem res3B : Statement .res3B := ⟨_, _, rfl, rfl, by decide⟩

theorem res3C : Statement .res3C := ⟨_, _, rfl, rfl, by decide⟩

theorem res3D : Statement .res3D := ⟨_, _, rfl, rfl, by decide⟩

theorem res3E : Statement .res3E := ⟨_, _, rfl, rfl, by decide⟩

theorem res3H : Statement .res3H := ⟨_, _, rfl, rfl, by decide⟩

theorem res3L : Statement .res3L := ⟨_, _, rfl, rfl, by decide⟩

theorem res3AtHl : Statement .res3AtHl := ⟨_, _, rfl, rfl, by decide⟩

theorem res3A : Statement .res3A := ⟨_, _, rfl, rfl, by decide⟩

theorem res4B : Statement .res4B := ⟨_, _, rfl, rfl, by decide⟩

theorem res4C : Statement .res4C := ⟨_, _, rfl, rfl, by decide⟩

theorem res4D : Statement .res4D := ⟨_, _, rfl, rfl, by decide⟩

theorem res4E : Statement .res4E := ⟨_, _, rfl, rfl, by decide⟩

theorem res4H : Statement .res4H := ⟨_, _, rfl, rfl, by decide⟩

theorem res4L : Statement .res4L := ⟨_, _, rfl, rfl, by decide⟩

theorem res4AtHl : Statement .res4AtHl := ⟨_, _, rfl, rfl, by decide⟩

theorem res4A : Statement .res4A := ⟨_, _, rfl, rfl, by decide⟩

theorem res5B : Statement .res5B := ⟨_, _, rfl, rfl, by decide⟩

theorem res5C : Statement .res5C := ⟨_, _, rfl, rfl, by decide⟩

theorem res5D : Statement .res5D := ⟨_, _, rfl, rfl, by decide⟩

theorem res5E : Statement .res5E := ⟨_, _, rfl, rfl, by decide⟩

theorem res5H : Statement .res5H := ⟨_, _, rfl, rfl, by decide⟩

theorem res5L : Statement .res5L := ⟨_, _, rfl, rfl, by decide⟩

theorem res5AtHl : Statement .res5AtHl := ⟨_, _, rfl, rfl, by decide⟩

theorem res5A : Statement .res5A := ⟨_, _, rfl, rfl, by decide⟩

theorem res6B : Statement .res6B := ⟨_, _, rfl, rfl, by decide⟩

theorem res6C : Statement .res6C := ⟨_, _, rfl, rfl, by decide⟩

theorem res6D : Statement .res6D := ⟨_, _, rfl, rfl, by decide⟩

theorem res6E : Statement .res6E := ⟨_, _, rfl, rfl, by decide⟩

theorem res6H : Statement .res6H := ⟨_, _, rfl, rfl, by decide⟩

theorem res6L : Statement .res6L := ⟨_, _, rfl, rfl, by decide⟩

theorem res6AtHl : Statement .res6AtHl := ⟨_, _, rfl, rfl, by decide⟩

theorem res6A : Statement .res6A := ⟨_, _, rfl, rfl, by decide⟩

theorem res7B : Statement .res7B := ⟨_, _, rfl, rfl, by decide⟩

theorem res7C : Statement .res7C := ⟨_, _, rfl, rfl, by decide⟩

theorem res7D : Statement .res7D := ⟨_, _, rfl, rfl, by decide⟩

theorem res7E : Statement .res7E := ⟨_, _, rfl, rfl, by decide⟩

theorem res7H : Statement .res7H := ⟨_, _, rfl, rfl, by decide⟩

theorem res7L : Statement .res7L := ⟨_, _, rfl, rfl, by decide⟩

theorem res7AtHl : Statement .res7AtHl := ⟨_, _, rfl, rfl, by decide⟩

theorem res7A : Statement .res7A := ⟨_, _, rfl, rfl, by decide⟩

theorem set0B : Statement .set0B := ⟨_, _, rfl, rfl, by decide⟩

theorem set0C : Statement .set0C := ⟨_, _, rfl, rfl, by decide⟩

theorem set0D : Statement .set0D := ⟨_, _, rfl, rfl, by decide⟩

theorem set0E : Statement .set0E := ⟨_, _, rfl, rfl, by decide⟩

theorem set0H : Statement .set0H := ⟨_, _, rfl, rfl, by decide⟩

theorem set0L : Statement .set0L := ⟨_, _, rfl, rfl, by decide⟩

theorem set0AtHl : Statement .set0AtHl := ⟨_, _, rfl, rfl, by decide⟩

theorem set0A : Statement .set0A := ⟨_, _, rfl, rfl, by decide⟩

theorem set1B : Statement .set1B := ⟨_, _, rfl, rfl, by decide⟩

theorem set1C : Statement .set1C := ⟨_, _, rfl, rfl, by decide⟩

theorem set1D : Statement .set1D := ⟨_, _, rfl, rfl, by decide⟩

theorem set1E : Statement .set1E := ⟨_, _, rfl, rfl, by decide⟩

theorem set1H : Statement .set1H := ⟨_, _, rfl, rfl, by decide⟩

theorem set1L : Statement .set1L := ⟨_, _, rfl, rfl, by decide⟩

theorem set1AtHl : Statement .set1AtHl := ⟨_, _, rfl, rfl, by decide⟩

theorem set1A : Statement .set1A := ⟨_, _, rfl, rfl, by decide⟩

theorem set2B : Statement .set2B := ⟨_, _, rfl, rfl, by decide⟩

theorem set2C : Statement .set2C := ⟨_, _, rfl, rfl, by decide⟩

theorem set2D : Statement .set2D := ⟨_, _, rfl, rfl, by decide⟩

theorem set2E : Statement .set2E := ⟨_, _, rfl, rfl, by decide⟩

theorem set2H : Statement .set2H := ⟨_, _, rfl, rfl, by decide⟩

theorem set2L : Statement .set2L := ⟨_, _, rfl, rfl, by decide⟩

theorem set2AtHl : Statement .set2AtHl := ⟨_, _, rfl, rfl, by decide⟩

theorem set2A : Statement .set2A := ⟨_, _, rfl, rfl, by decide⟩

theorem set3B : Statement .set3B := ⟨_, _, rfl, rfl, by decide⟩

theorem set3C : Statement .set3C := ⟨_, _, rfl, rfl, by decide⟩

theorem set3D : Statement .set3D := ⟨_, _, rfl, rfl, by decide⟩

theorem set3E : Statement .set3E := ⟨_, _, rfl, rfl, by decide⟩

theorem set3H : Statement .set3H := ⟨_, _, rfl, rfl, by decide⟩

theorem set3L : Statement .set3L := ⟨_, _, rfl, rfl, by decide⟩

theorem set3AtHl : Statement .set3AtHl := ⟨_, _, rfl, rfl, by decide⟩

theorem set3A : Statement .set3A := ⟨_, _, rfl, rfl, by decide⟩

theorem set4B : Statement .set4B := ⟨_, _, rfl, rfl, by decide⟩

theorem set4C : Statement .set4C := ⟨_, _, rfl, rfl, by decide⟩

theorem set4D : Statement .set4D := ⟨_, _, rfl, rfl, by decide⟩

theorem set4E : Statement .set4E := ⟨_, _, rfl, rfl, by decide⟩

theorem set4H : Statement .set4H := ⟨_, _, rfl, rfl, by decide⟩

theorem set4L : Statement .set4L := ⟨_, _, rfl, rfl, by decide⟩

theorem set4AtHl : Statement .set4AtHl := ⟨_, _, rfl, rfl, by decide⟩

theorem set4A : Statement .set4A := ⟨_, _, rfl, rfl, by decide⟩

theorem set5B : Statement .set5B := ⟨_, _, rfl, rfl, by decide⟩

theorem set5C : Statement .set5C := ⟨_, _, rfl, rfl, by decide⟩

theorem set5D : Statement .set5D := ⟨_, _, rfl, rfl, by decide⟩

theorem set5E : Statement .set5E := ⟨_, _, rfl, rfl, by decide⟩

theorem set5H : Statement .set5H := ⟨_, _, rfl, rfl, by decide⟩

theorem set5L : Statement .set5L := ⟨_, _, rfl, rfl, by decide⟩

theorem set5AtHl : Statement .set5AtHl := ⟨_, _, rfl, rfl, by decide⟩

theorem set5A : Statement .set5A := ⟨_, _, rfl, rfl, by decide⟩

theorem set6B : Statement .set6B := ⟨_, _, rfl, rfl, by decide⟩

theorem set6C : Statement .set6C := ⟨_, _, rfl, rfl, by decide⟩

theorem set6D : Statement .set6D := ⟨_, _, rfl, rfl, by decide⟩

theorem set6E : Statement .set6E := ⟨_, _, rfl, rfl, by decide⟩

theorem set6H : Statement .set6H := ⟨_, _, rfl, rfl, by decide⟩

theorem set6L : Statement .set6L := ⟨_, _, rfl, rfl, by decide⟩

theorem set6AtHl : Statement .set6AtHl := ⟨_, _, rfl, rfl, by decide⟩

theorem set6A : Statement .set6A := ⟨_, _, rfl, rfl, by decide⟩

theorem set7B : Statement .set7B := ⟨_, _, rfl, rfl, by decide⟩

theorem set7C : Statement .set7C := ⟨_, _, rfl, rfl, by decide⟩

theorem set7D : Statement .set7D := ⟨_, _, rfl, rfl, by decide⟩

theorem set7E : Statement .set7E := ⟨_, _, rfl, rfl, by decide⟩

theorem set7H : Statement .set7H := ⟨_, _, rfl, rfl, by decide⟩

theorem set7L : Statement .set7L := ⟨_, _, rfl, rfl, by decide⟩

theorem set7AtHl : Statement .set7AtHl := ⟨_, _, rfl, rfl, by decide⟩

theorem set7A : Statement .set7A := ⟨_, _, rfl, rfl, by decide⟩

end Sys2Proof.Laws.Encoding
end

