-- ==== Sys2Proof/Laws/Shapes.lean ====
section
/-! SUPPORT. Case analysis on an instruction by its shape: the 512 constructors as the operand forms they are written
with, so that a proof over all instructions has one case per meaning. -/

namespace Sys2Proof

/-- To prove something of every instruction, prove it of every shape. -/
theorem Instr.byShape {motive : Instr → Prop}
    (ldRpNn : ∀ (p : Rp) (nn : Word), motive (Instr.ldRpNn p nn))
    (ldRN : ∀ (dst : R8) (n : Byte), motive (Instr.ldRN dst n))
    (ldAtNnSp : ∀ nn : Word, motive (.ldAtNnSp nn))
    (djnzE : ∀ e : Byte, motive (.djnzE e))
    (jrE : ∀ e : Byte, motive (.jrE e))
    (jrIf : ∀ (cc : Cond) (e : Byte), motive (Instr.jrIf cc e))
    (ldAtHlN : ∀ n : Byte, motive (.ldAtHlN n))
    (jpIf : ∀ (cc : Cond) (nn : Word), motive (Instr.jpIf cc nn))
    (jpNn : ∀ nn : Word, motive (.jpNn nn))
    (callIf : ∀ (cc : Cond) (nn : Word), motive (Instr.callIf cc nn))
    (aluN : ∀ (op : AluOp) (n : Byte), motive (Instr.aluN op n))
    (prefixCb : ∀ opcode2 : Byte, motive (.prefixCb opcode2))
    (callNn : ∀ nn : Word, motive (.callNn nn))
    (ldhAtNA : ∀ n : Byte, motive (.ldhAtNA n))
    (addSpE : ∀ e : Byte, motive (.addSpE e))
    (ldAtNnA : ∀ nn : Word, motive (.ldAtNnA nn))
    (ldhAAtN : ∀ n : Byte, motive (.ldhAAtN n))
    (ldHlSpE : ∀ e : Byte, motive (.ldHlSpE e))
    (ldAAtNn : ∀ nn : Word, motive (.ldAAtNn nn))
    (nop : motive .nop)
    (ldAtBcA : motive .ldAtBcA)
    (incRp : ∀ (p : Rp), motive (Instr.incRp p))
    (incR : ∀ (r : R8), motive (Instr.incR r))
    (decR : ∀ (r : R8), motive (Instr.decR r))
    (rlca : motive .rlca)
    (addHlRp : ∀ (p : Rp), motive (Instr.addHlRp p))
    (ldAAtBc : motive .ldAAtBc)
    (decRp : ∀ (p : Rp), motive (Instr.decRp p))
    (rrca : motive .rrca)
    (ldAtDeA : motive .ldAtDeA)
    (rla : motive .rla)
    (ldAAtDe : motive .ldAAtDe)
    (rra : motive .rra)
    (ldAtHlIncA : motive .ldAtHlIncA)
    (daa : motive .daa)
    (ldAAtHlInc : motive .ldAAtHlInc)
    (cpl : motive .cpl)
    (ldAtHlDecA : motive .ldAtHlDecA)
    (incAtHl : motive .incAtHl)
    (decAtHl : motive .decAtHl)
    (scf : motive .scf)
    (ldAAtHlDec : motive .ldAAtHlDec)
    (ccf : motive .ccf)
    (ldRR : ∀ (dst : R8) (src : R8), motive (Instr.ldRR dst src))
    (ldRAtHl : ∀ (dst : R8), motive (Instr.ldRAtHl dst))
    (ldAtHlR : ∀ (src : R8), motive (Instr.ldAtHlR src))
    (halt : motive .halt)
    (aluR : ∀ (op : AluOp) (r : R8), motive (Instr.aluR op r))
    (aluAtHl : ∀ (op : AluOp), motive (Instr.aluAtHl op))
    (retIf : ∀ (cc : Cond), motive (Instr.retIf cc))
    (pop : ∀ (p : Rp2), motive (Instr.pop p))
    (push : ∀ (p : Rp2), motive (Instr.push p))
    (rst : ∀ (y : Fin 8), motive (Instr.rst y))
    (ret : motive .ret)
    (illegalD3 : motive .illegalD3)
    (reti : motive .reti)
    (illegalDB : motive .illegalDB)
    (illegalDD : motive .illegalDD)
    (ldAtCA : motive .ldAtCA)
    (illegalE3 : motive .illegalE3)
    (illegalE4 : motive .illegalE4)
    (jpHl : motive .jpHl)
    (illegalEB : motive .illegalEB)
    (illegalEC : motive .illegalEC)
    (illegalED : motive .illegalED)
    (ldAAtC : motive .ldAAtC)
    (di : motive .di)
    (illegalF4 : motive .illegalF4)
    (ldSpHl : motive .ldSpHl)
    (ei : motive .ei)
    (illegalFC : motive .illegalFC)
    (illegalFD : motive .illegalFD)
    (shiftR : ∀ (op : ShiftOp) (r : R8), motive (Instr.shiftR op r))
    (shiftAtHl : ∀ (op : ShiftOp), motive (Instr.shiftAtHl op))
    (bitR : ∀ (b : Fin 8) (r : R8), motive (Instr.bitR b r))
    (bitAtHl : ∀ (b : Fin 8), motive (Instr.bitAtHl b))
    (resR : ∀ (b : Fin 8) (r : R8), motive (Instr.resR b r))
    (resAtHl : ∀ (b : Fin 8), motive (Instr.resAtHl b))
    (setR : ∀ (b : Fin 8) (r : R8), motive (Instr.setR b r))
    (setAtHl : ∀ (b : Fin 8), motive (Instr.setAtHl b))
    (i : Instr) : motive i := by
  cases i with
  | ldBcNn nn => exact ldRpNn .bc nn
  | ldBN n => exact ldRN .b n
  | ldAtNnSp nn => exact ldAtNnSp nn
  | ldCN n => exact ldRN .c n
  | djnzE e => exact djnzE e
  | ldDeNn nn => exact ldRpNn .de nn
  | ldDN n => exact ldRN .d n
  | jrE e => exact jrE e
  | ldEN n => exact ldRN .e n
  | jrNzE e => exact jrIf .nz e
  | ldHlNn nn => exact ldRpNn .hl nn
  | ldHN n => exact ldRN .h n
  | jrZE e => exact jrIf .z e
  | ldLN n => exact ldRN .l n
  | jrNcE e => exact jrIf .nc e
  | ldSpNn nn => exact ldRpNn .sp nn
  | ldAtHlN n => exact ldAtHlN n
  | jrCE e => exact jrIf .c e
  | ldAN n => exact ldRN .a n
  | jpNzNn nn => exact jpIf .nz nn
  | jpNn nn => exact jpNn nn
  | callNzNn nn => exact callIf .nz nn
  | addAN n => exact aluN .add n
  | jpZNn nn => exact jpIf .z nn
  | prefixCb opcode2 => exact prefixCb opcode2
  | callZNn nn => exact callIf .z nn
  | callNn nn => exact callNn nn
  | adcAN n => exact aluN .adc n
  | jpNcNn nn => exact jpIf .nc nn
  | callNcNn nn => exact callIf .nc nn
  | subN n => exact aluN .sub n
  | jpCNn nn => exact jpIf .c nn
  | callCNn nn => exact callIf .c nn
  | sbcAN n => exact aluN .sbc n
  | ldhAtNA n => exact ldhAtNA n
  | andN n => exact aluN .and n
  | addSpE e => exact addSpE e
  | ldAtNnA nn => exact ldAtNnA nn
  | xorN n => exact aluN .xor n
  | ldhAAtN n => exact ldhAAtN n
  | orN n => exact aluN .or n
  | ldHlSpE e => exact ldHlSpE e
  | ldAAtNn nn => exact ldAAtNn nn
  | cpN n => exact aluN .cp n
  | nop => exact nop
  | ldAtBcA => exact ldAtBcA
  | incBc => exact incRp .bc
  | incB => exact incR .b
  | decB => exact decR .b
  | rlca => exact rlca
  | addHlBc => exact addHlRp .bc
  | ldAAtBc => exact ldAAtBc
  | decBc => exact decRp .bc
  | incC => exact incR .c
  | decC => exact decR .c
  | rrca => exact rrca
  | ldAtDeA => exact ldAtDeA
  | incDe => exact incRp .de
  | incD => exact incR .d
  | decD => exact decR .d
  | rla => exact rla
  | addHlDe => exact addHlRp .de
  | ldAAtDe => exact ldAAtDe
  | decDe => exact decRp .de
  | incE => exact incR .e
  | decE => exact decR .e
  | rra => exact rra
  | ldAtHlIncA => exact ldAtHlIncA
  | incHl => exact incRp .hl
  | incH => exact incR .h
  | decH => exact decR .h
  | daa => exact daa
  | addHlHl => exact addHlRp .hl
  | ldAAtHlInc => exact ldAAtHlInc
  | decHl => exact decRp .hl
  | incL => exact incR .l
  | decL => exact decR .l
  | cpl => exact cpl
  | ldAtHlDecA => exact ldAtHlDecA
  | incSp => exact incRp .sp
  | incAtHl => exact incAtHl
  | decAtHl => exact decAtHl
  | scf => exact scf
  | addHlSp => exact addHlRp .sp
  | ldAAtHlDec => exact ldAAtHlDec
  | decSp => exact decRp .sp
  | incA => exact incR .a
  | decA => exact decR .a
  | ccf => exact ccf
  | ldBB => exact ldRR .b .b
  | ldBC => exact ldRR .b .c
  | ldBD => exact ldRR .b .d
  | ldBE => exact ldRR .b .e
  | ldBH => exact ldRR .b .h
  | ldBL => exact ldRR .b .l
  | ldBAtHl => exact ldRAtHl .b
  | ldBA => exact ldRR .b .a
  | ldCB => exact ldRR .c .b
  | ldCC => exact ldRR .c .c
  | ldCD => exact ldRR .c .d
  | ldCE => exact ldRR .c .e
  | ldCH => exact ldRR .c .h
  | ldCL => exact ldRR .c .l
  | ldCAtHl => exact ldRAtHl .c
  | ldCA => exact ldRR .c .a
  | ldDB => exact ldRR .d .b
  | ldDC => exact ldRR .d .c
  | ldDD => exact ldRR .d .d
  | ldDE => exact ldRR .d .e
  | ldDH => exact ldRR .d .h
  | ldDL => exact ldRR .d .l
  | ldDAtHl => exact ldRAtHl .d
  | ldDA => exact ldRR .d .a
  | ldEB => exact ldRR .e .b
  | ldEC => exact ldRR .e .c
  | ldED => exact ldRR .e .d
  | ldEE => exact ldRR .e .e
  | ldEH => exact ldRR .e .h
  | ldEL => exact ldRR .e .l
  | ldEAtHl => exact ldRAtHl .e
  | ldEA => exact ldRR .e .a
  | ldHB => exact ldRR .h .b
  | ldHC => exact ldRR .h .c
  | ldHD => exact ldRR .h .d
  | ldHE => exact ldRR .h .e
  | ldHH => exact ldRR .h .h
  | ldHL => exact ldRR .h .l
  | ldHAtHl => exact ldRAtHl .h
  | ldHA => exact ldRR .h .a
  | ldLB => exact ldRR .l .b
  | ldLC => exact ldRR .l .c
  | ldLD => exact ldRR .l .d
  | ldLE => exact ldRR .l .e
  | ldLH => exact ldRR .l .h
  | ldLL => exact ldRR .l .l
  | ldLAtHl => exact ldRAtHl .l
  | ldLA => exact ldRR .l .a
  | ldAtHlB => exact ldAtHlR .b
  | ldAtHlC => exact ldAtHlR .c
  | ldAtHlD => exact ldAtHlR .d
  | ldAtHlE => exact ldAtHlR .e
  | ldAtHlH => exact ldAtHlR .h
  | ldAtHlL => exact ldAtHlR .l
  | halt => exact halt
  | ldAtHlA => exact ldAtHlR .a
  | ldAB => exact ldRR .a .b
  | ldAC => exact ldRR .a .c
  | ldAD => exact ldRR .a .d
  | ldAE => exact ldRR .a .e
  | ldAH => exact ldRR .a .h
  | ldAL => exact ldRR .a .l
  | ldAAtHl => exact ldRAtHl .a
  | ldAA => exact ldRR .a .a
  | addAB => exact aluR .add .b
  | addAC => exact aluR .add .c
  | addAD => exact aluR .add .d
  | addAE => exact aluR .add .e
  | addAH => exact aluR .add .h
  | addAL => exact aluR .add .l
  | addAAtHl => exact aluAtHl .add
  | addAA => exact aluR .add .a
  | adcAB => exact aluR .adc .b
  | adcAC => exact aluR .adc .c
  | adcAD => exact aluR .adc .d
  | adcAE => exact aluR .adc .e
  | adcAH => exact aluR .adc .h
  | adcAL => exact aluR .adc .l
  | adcAAtHl => exact aluAtHl .adc
  | adcAA => exact aluR .adc .a
  | subB => exact aluR .sub .b
  | subC => exact aluR .sub .c
  | subD => exact aluR .sub .d
  | subE => exact aluR .sub .e
  | subH => exact aluR .sub .h
  | subL => exact aluR .sub .l
  | subAtHl => exact aluAtHl .sub
  | subA => exact aluR .sub .a
  | sbcAB => exact aluR .sbc .b
  | sbcAC => exact aluR .sbc .c
  | sbcAD => exact aluR .sbc .d
  | sbcAE => exact aluR .sbc .e
  | sbcAH => exact aluR .sbc .h
  | sbcAL => exact aluR .sbc .l
  | sbcAAtHl => exact aluAtHl .sbc
  | sbcAA => exact aluR .sbc .a
  | andB => exact aluR .and .b
  | andC => exact aluR .and .c
  | andD => exact aluR .and .d
  | andE => exact aluR .and .e
  | andH => exact aluR .and .h
  | andL => exact aluR .and .l
  | andAtHl => exact aluAtHl .and
  | andA => exact aluR .and .a
  | xorB => exact aluR .xor .b
  | xorC => exact aluR .xor .c
  | xorD => exact aluR .xor .d
  | xorE => exact aluR .xor .e
  | xorH => exact aluR .xor .h
  | xorL => exact aluR .xor .l
  | xorAtHl => exact aluAtHl .xor
  | xorA => exact aluR .xor .a
  | orB => exact aluR .or .b
  | orC => exact aluR .or .c
  | orD => exact aluR .or .d
  | orE => exact aluR .or .e
  | orH => exact aluR .or .h
  | orL => exact aluR .or .l
  | orAtHl => exact aluAtHl .or
  | orA => exact aluR .or .a
  | cpB => exact aluR .cp .b
  | cpC => exact aluR .cp .c
  | cpD => exact aluR .cp .d
  | cpE => exact aluR .cp .e
  | cpH => exact aluR .cp .h
  | cpL => exact aluR .cp .l
  | cpAtHl => exact aluAtHl .cp
  | cpA => exact aluR .cp .a
  | retNz => exact retIf .nz
  | popBc => exact pop .bc
  | pushBc => exact push .bc
  | rst00 => exact rst 0
  | retZ => exact retIf .z
  | ret => exact ret
  | rst08 => exact rst 1
  | retNc => exact retIf .nc
  | popDe => exact pop .de
  | illegalD3 => exact illegalD3
  | pushDe => exact push .de
  | rst10 => exact rst 2
  | retC => exact retIf .c
  | reti => exact reti
  | illegalDB => exact illegalDB
  | illegalDD => exact illegalDD
  | rst18 => exact rst 3
  | popHl => exact pop .hl
  | ldAtCA => exact ldAtCA
  | illegalE3 => exact illegalE3
  | illegalE4 => exact illegalE4
  | pushHl => exact push .hl
  | rst20 => exact rst 4
  | jpHl => exact jpHl
  | illegalEB => exact illegalEB
  | illegalEC => exact illegalEC
  | illegalED => exact illegalED
  | rst28 => exact rst 5
  | popAf => exact pop .af
  | ldAAtC => exact ldAAtC
  | di => exact di
  | illegalF4 => exact illegalF4
  | pushAf => exact push .af
  | rst30 => exact rst 6
  | ldSpHl => exact ldSpHl
  | ei => exact ei
  | illegalFC => exact illegalFC
  | illegalFD => exact illegalFD
  | rst38 => exact rst 7
  | rlcB => exact shiftR .rlc .b
  | rlcC => exact shiftR .rlc .c
  | rlcD => exact shiftR .rlc .d
  | rlcE => exact shiftR .rlc .e
  | rlcH => exact shiftR .rlc .h
  | rlcL => exact shiftR .rlc .l
  | rlcAtHl => exact shiftAtHl .rlc
  | rlcA => exact shiftR .rlc .a
  | rrcB => exact shiftR .rrc .b
  | rrcC => exact shiftR .rrc .c
  | rrcD => exact shiftR .rrc .d
  | rrcE => exact shiftR .rrc .e
  | rrcH => exact shiftR .rrc .h
  | rrcL => exact shiftR .rrc .l
  | rrcAtHl => exact shiftAtHl .rrc
  | rrcA => exact shiftR .rrc .a
  | rlB => exact shiftR .rl .b
  | rlC => exact shiftR .rl .c
  | rlD => exact shiftR .rl .d
  | rlE => exact shiftR .rl .e
  | rlH => exact shiftR .rl .h
  | rlL => exact shiftR .rl .l
  | rlAtHl => exact shiftAtHl .rl
  | rlA => exact shiftR .rl .a
  | rrB => exact shiftR .rr .b
  | rrC => exact shiftR .rr .c
  | rrD => exact shiftR .rr .d
  | rrE => exact shiftR .rr .e
  | rrH => exact shiftR .rr .h
  | rrL => exact shiftR .rr .l
  | rrAtHl => exact shiftAtHl .rr
  | rrA => exact shiftR .rr .a
  | slaB => exact shiftR .sla .b
  | slaC => exact shiftR .sla .c
  | slaD => exact shiftR .sla .d
  | slaE => exact shiftR .sla .e
  | slaH => exact shiftR .sla .h
  | slaL => exact shiftR .sla .l
  | slaAtHl => exact shiftAtHl .sla
  | slaA => exact shiftR .sla .a
  | sraB => exact shiftR .sra .b
  | sraC => exact shiftR .sra .c
  | sraD => exact shiftR .sra .d
  | sraE => exact shiftR .sra .e
  | sraH => exact shiftR .sra .h
  | sraL => exact shiftR .sra .l
  | sraAtHl => exact shiftAtHl .sra
  | sraA => exact shiftR .sra .a
  | swapB => exact shiftR .swap .b
  | swapC => exact shiftR .swap .c
  | swapD => exact shiftR .swap .d
  | swapE => exact shiftR .swap .e
  | swapH => exact shiftR .swap .h
  | swapL => exact shiftR .swap .l
  | swapAtHl => exact shiftAtHl .swap
  | swapA => exact shiftR .swap .a
  | srlB => exact shiftR .srl .b
  | srlC => exact shiftR .srl .c
  | srlD => exact shiftR .srl .d
  | srlE => exact shiftR .srl .e
  | srlH => exact shiftR .srl .h
  | srlL => exact shiftR .srl .l
  | srlAtHl => exact shiftAtHl .srl
  | srlA => exact shiftR .srl .a
  | bit0B => exact bitR 0 .b
  | bit0C => exact bitR 0 .c
  | bit0D => exact bitR 0 .d
  | bit0E => exact bitR 0 .e
  | bit0H => exact bitR 0 .h
  | bit0L => exact bitR 0 .l
  | bit0AtHl => exact bitAtHl 0
  | bit0A => exact bitR 0 .a
  | bit1B => exact bitR 1 .b
  | bit1C => exact bitR 1 .c
  | bit1D => exact bitR 1 .d
  | bit1E => exact bitR 1 .e
  | bit1H => exact bitR 1 .h
  | bit1L => exact bitR 1 .l
  | bit1AtHl => exact bitAtHl 1
  | bit1A => exact bitR 1 .a
  | bit2B => exact bitR 2 .b
  | bit2C => exact bitR 2 .c
  | bit2D => exact bitR 2 .d
  | bit2E => exact bitR 2 .e
  | bit2H => exact bitR 2 .h
  | bit2L => exact bitR 2 .l
  | bit2AtHl => exact bitAtHl 2
  | bit2A => exact bitR 2 .a
  | bit3B => exact bitR 3 .b
  | bit3C => exact bitR 3 .c
  | bit3D => exact bitR 3 .d
  | bit3E => exact bitR 3 .e
  | bit3H => exact bitR 3 .h
  | bit3L => exact bitR 3 .l
  | bit3AtHl => exact bitAtHl 3
  | bit3A => exact bitR 3 .a
  | bit4B => exact bitR 4 .b
  | bit4C => exact bitR 4 .c
  | bit4D => exact bitR 4 .d
  | bit4E => exact bitR 4 .e
  | bit4H => exact bitR 4 .h
  | bit4L => exact bitR 4 .l
  | bit4AtHl => exact bitAtHl 4
  | bit4A => exact bitR 4 .a
  | bit5B => exact bitR 5 .b
  | bit5C => exact bitR 5 .c
  | bit5D => exact bitR 5 .d
  | bit5E => exact bitR 5 .e
  | bit5H => exact bitR 5 .h
  | bit5L => exact bitR 5 .l
  | bit5AtHl => exact bitAtHl 5
  | bit5A => exact bitR 5 .a
  | bit6B => exact bitR 6 .b
  | bit6C => exact bitR 6 .c
  | bit6D => exact bitR 6 .d
  | bit6E => exact bitR 6 .e
  | bit6H => exact bitR 6 .h
  | bit6L => exact bitR 6 .l
  | bit6AtHl => exact bitAtHl 6
  | bit6A => exact bitR 6 .a
  | bit7B => exact bitR 7 .b
  | bit7C => exact bitR 7 .c
  | bit7D => exact bitR 7 .d
  | bit7E => exact bitR 7 .e
  | bit7H => exact bitR 7 .h
  | bit7L => exact bitR 7 .l
  | bit7AtHl => exact bitAtHl 7
  | bit7A => exact bitR 7 .a
  | res0B => exact resR 0 .b
  | res0C => exact resR 0 .c
  | res0D => exact resR 0 .d
  | res0E => exact resR 0 .e
  | res0H => exact resR 0 .h
  | res0L => exact resR 0 .l
  | res0AtHl => exact resAtHl 0
  | res0A => exact resR 0 .a
  | res1B => exact resR 1 .b
  | res1C => exact resR 1 .c
  | res1D => exact resR 1 .d
  | res1E => exact resR 1 .e
  | res1H => exact resR 1 .h
  | res1L => exact resR 1 .l
  | res1AtHl => exact resAtHl 1
  | res1A => exact resR 1 .a
  | res2B => exact resR 2 .b
  | res2C => exact resR 2 .c
  | res2D => exact resR 2 .d
  | res2E => exact resR 2 .e
  | res2H => exact resR 2 .h
  | res2L => exact resR 2 .l
  | res2AtHl => exact resAtHl 2
  | res2A => exact resR 2 .a
  | res3B => exact resR 3 .b
  | res3C => exact resR 3 .c
  | res3D => exact resR 3 .d
  | res3E => exact resR 3 .e
  | res3H => exact resR 3 .h
  | res3L => exact resR 3 .l
  | res3AtHl => exact resAtHl 3
  | res3A => exact resR 3 .a
  | res4B => exact resR 4 .b
  | res4C => exact resR 4 .c
  | res4D => exact resR 4 .d
  | res4E => exact resR 4 .e
  | res4H => exact resR 4 .h
  | res4L => exact resR 4 .l
  | res4AtHl => exact resAtHl 4
  | res4A => exact resR 4 .a
  | res5B => exact resR 5 .b
  | res5C => exact resR 5 .c
  | res5D => exact resR 5 .d
  | res5E => exact resR 5 .e
  | res5H => exact resR 5 .h
  | res5L => exact resR 5 .l
  | res5AtHl => exact resAtHl 5
  | res5A => exact resR 5 .a
  | res6B => exact resR 6 .b
  | res6C => exact resR 6 .c
  | res6D => exact resR 6 .d
  | res6E => exact resR 6 .e
  | res6H => exact resR 6 .h
  | res6L => exact resR 6 .l
  | res6AtHl => exact resAtHl 6
  | res6A => exact resR 6 .a
  | res7B => exact resR 7 .b
  | res7C => exact resR 7 .c
  | res7D => exact resR 7 .d
  | res7E => exact resR 7 .e
  | res7H => exact resR 7 .h
  | res7L => exact resR 7 .l
  | res7AtHl => exact resAtHl 7
  | res7A => exact resR 7 .a
  | set0B => exact setR 0 .b
  | set0C => exact setR 0 .c
  | set0D => exact setR 0 .d
  | set0E => exact setR 0 .e
  | set0H => exact setR 0 .h
  | set0L => exact setR 0 .l
  | set0AtHl => exact setAtHl 0
  | set0A => exact setR 0 .a
  | set1B => exact setR 1 .b
  | set1C => exact setR 1 .c
  | set1D => exact setR 1 .d
  | set1E => exact setR 1 .e
  | set1H => exact setR 1 .h
  | set1L => exact setR 1 .l
  | set1AtHl => exact setAtHl 1
  | set1A => exact setR 1 .a
  | set2B => exact setR 2 .b
  | set2C => exact setR 2 .c
  | set2D => exact setR 2 .d
  | set2E => exact setR 2 .e
  | set2H => exact setR 2 .h
  | set2L => exact setR 2 .l
  | set2AtHl => exact setAtHl 2
  | set2A => exact setR 2 .a
  | set3B => exact setR 3 .b
  | set3C => exact setR 3 .c
  | set3D => exact setR 3 .d
  | set3E => exact setR 3 .e
  | set3H => exact setR 3 .h
  | set3L => exact setR 3 .l
  | set3AtHl => exact setAtHl 3
  | set3A => exact setR 3 .a
  | set4B => exact setR 4 .b
  | set4C => exact setR 4 .c
  | set4D => exact setR 4 .d
  | set4E => exact setR 4 .e
  | set4H => exact setR 4 .h
  | set4L => exact setR 4 .l
  | set4AtHl => exact setAtHl 4
  | set4A => exact setR 4 .a
  | set5B => exact setR 5 .b
  | set5C => exact setR 5 .c
  | set5D => exact setR 5 .d
  | set5E => exact setR 5 .e
  | set5H => exact setR 5 .h
  | set5L => exact setR 5 .l
  | set5AtHl => exact setAtHl 5
  | set5A => exact setR 5 .a
  | set6B => exact setR 6 .b
  | set6C => exact setR 6 .c
  | set6D => exact setR 6 .d
  | set6E => exact setR 6 .e
  | set6H => exact setR 6 .h
  | set6L => exact setR 6 .l
  | set6AtHl => exact setAtHl 6
  | set6A => exact setR 6 .a
  | set7B => exact setR 7 .b
  | set7C => exact setR 7 .c
  | set7D => exact setR 7 .d
  | set7E => exact setR 7 .e
  | set7H => exact setR 7 .h
  | set7L => exact setR 7 .l
  | set7AtHl => exact setAtHl 7
  | set7A => exact setR 7 .a

end Sys2Proof
end

