-- ==== Sys2Proof/Laws/Safety.lean ====
section
/-! SUPPORT. The tables of Safety.lean read by shape: where each shape reads data and where it stores, which flags each shape may
change, which shapes may be illegal. No proof unfolds the tables. -/

namespace Sys2Proof.Machine

/-! ### Loads -/

theorem loadAddresses_ldRAtHl (dst : R8) (s : State) : loadAddresses (Instr.ldRAtHl dst) s = [s.hl] := by
  cases dst <;> rfl

theorem loadAddresses_aluAtHl (op : AluOp) (s : State) : loadAddresses (Instr.aluAtHl op) s = [s.hl] := by
  cases op <;> rfl

theorem loadAddresses_shiftAtHl (op : ShiftOp) (s : State) : loadAddresses (Instr.shiftAtHl op) s = [s.hl] := by
  cases op <;> rfl

theorem loadAddresses_bitAtHl (b : Fin 8) (s : State) : loadAddresses (Instr.bitAtHl b) s = [s.hl] := by
  fin_cases b <;> rfl

theorem loadAddresses_resAtHl (b : Fin 8) (s : State) :
    loadAddresses (Instr.resAtHl b) s = if s.cbResSet = .implemented then [s.hl] else [] := by
  fin_cases b <;> rfl

theorem loadAddresses_setAtHl (b : Fin 8) (s : State) :
    loadAddresses (Instr.setAtHl b) s = if s.cbResSet = .implemented then [s.hl] else [] := by
  fin_cases b <;> rfl

theorem loadAddresses_prefixCb (op2 : Byte) (s : State) :
    loadAddresses (.prefixCb op2) s =
      if fieldZ op2 = 6 ∧ (fieldX op2 < 2 ∨ s.cbResSet = .implemented) then [s.hl] else [] := rfl

theorem loadAddresses_pop (p : Rp2) (s : State) : loadAddresses (Instr.pop p) s = [s.sp, s.sp + 1] := by
  cases p <;> rfl

theorem loadAddresses_retIf (cc : Cond) (s : State) :
    loadAddresses (Instr.retIf cc) s = if s.cond cc then [s.sp, s.sp + 1] else [] := by
  cases cc <;> rfl

/-! ### Stores -/

theorem storeAddresses_ldAtHlR (src : R8) (s : State) : storeAddresses (Instr.ldAtHlR src) s = [s.hl] := by
  cases src <;> rfl

theorem storeAddresses_shiftAtHl (op : ShiftOp) (s : State) : storeAddresses (Instr.shiftAtHl op) s = [s.hl] := by
  cases op <;> rfl

theorem storeAddresses_resAtHl (b : Fin 8) (s : State) :
    storeAddresses (Instr.resAtHl b) s = if s.cbResSet = .implemented then [s.hl] else [] := by
  fin_cases b <;> rfl

theorem storeAddresses_setAtHl (b : Fin 8) (s : State) :
    storeAddresses (Instr.setAtHl b) s = if s.cbResSet = .implemented then [s.hl] else [] := by
  fin_cases b <;> rfl

theorem storeAddresses_prefixCb (op2 : Byte) (s : State) :
    storeAddresses (.prefixCb op2) s =
      if fieldZ op2 = 6 ∧ (fieldX op2 = 0 ∨ (2 ≤ fieldX op2 ∧ s.cbResSet = .implemented)) then [s.hl] else [] := rfl

theorem storeAddresses_push (p : Rp2) (s : State) : storeAddresses (Instr.push p) s = [s.sp - 1, s.sp - 2] := by
  cases p <;> rfl

theorem storeAddresses_rst (y : Fin 8) (s : State) : storeAddresses (Instr.rst y) s = [s.sp - 1, s.sp - 2] := by
  fin_cases y <;> rfl

theorem storeAddresses_callIf (cc : Cond) (nn : Word) (s : State) :
    storeAddresses (Instr.callIf cc nn) s = if s.cond cc then [s.sp - 1, s.sp - 2] else [] := by
  cases cc <;> rfl

/-! ### Flags -/

theorem flagMask_aluR (op : AluOp) (r : R8) : flagMask (Instr.aluR op r) = 0xF0#8 := by
  cases op <;> cases r <;> rfl

theorem flagMask_aluAtHl (op : AluOp) : flagMask (Instr.aluAtHl op) = 0xF0#8 := by cases op <;> rfl

theorem flagMask_aluN (op : AluOp) (n : Byte) : flagMask (Instr.aluN op n) = 0xF0#8 := by cases op <;> rfl

theorem flagMask_incR (r : R8) : flagMask (Instr.incR r) = 0xE0#8 := by cases r <;> rfl

theorem flagMask_decR (r : R8) : flagMask (Instr.decR r) = 0xE0#8 := by cases r <;> rfl

theorem flagMask_addHlRp (p : Rp) : flagMask (Instr.addHlRp p) = 0x10#8 := by cases p <;> rfl

theorem flagMask_shiftR (op : ShiftOp) (r : R8) : flagMask (Instr.shiftR op r) = 0xF0#8 := by
  cases op <;> cases r <;> rfl

theorem flagMask_shiftAtHl (op : ShiftOp) : flagMask (Instr.shiftAtHl op) = 0xF0#8 := by cases op <;> rfl

theorem flagMask_bitR (b : Fin 8) (r : R8) : flagMask (Instr.bitR b r) = 0xE0#8 := by
  fin_cases b <;> cases r <;> rfl

theorem flagMask_bitAtHl (b : Fin 8) : flagMask (Instr.bitAtHl b) = 0xE0#8 := by fin_cases b <;> rfl

theorem flagMask_pop (p : Rp2) : flagMask (Instr.pop p) = if p = .af then 0xF0#8 else 0#8 := by cases p <;> rfl

theorem flagMask_prefixCb (op2 : Byte) :
    flagMask (.prefixCb op2) = if fieldX op2 = 0 then 0xF0#8 else if fieldX op2 = 1 then 0xE0#8 else 0#8 := rfl

/-! ### Illegal slots -/

theorem isIllegal_resR (b : Fin 8) (r : R8) (x : CbResSet) : isIllegal (Instr.resR b r) x = (x == .illegal) := by
  fin_cases b <;> cases r <;> rfl

theorem isIllegal_setR (b : Fin 8) (r : R8) (x : CbResSet) : isIllegal (Instr.setR b r) x = (x == .illegal) := by
  fin_cases b <;> cases r <;> rfl

theorem isIllegal_resAtHl (b : Fin 8) (x : CbResSet) : isIllegal (Instr.resAtHl b) x = (x == .illegal) := by
  fin_cases b <;> rfl

theorem isIllegal_setAtHl (b : Fin 8) (x : CbResSet) : isIllegal (Instr.setAtHl b) x = (x == .illegal) := by
  fin_cases b <;> rfl

theorem isIllegal_prefixCb (op2 : Byte) (x : CbResSet) :
    isIllegal (.prefixCb op2) x = (decide (2 ≤ fieldX op2) && x == .illegal) := rfl

end Sys2Proof.Machine
end

