-- ==== Sys2Proof/Tests/DecodeWords.lean ====
section
/-! SUPPORT. Decoding, word by word: every slot of the primary map (spec/30_encoding.md R68) and of the CB map (R69),
each word written out from the map and spec/opcode_table.json, one theorem per row of sixteen slots. The words 34 12
are the operand 0x1234, low byte first (R65). -/

namespace Sys2Proof

/-- The words decode to the instructions, nothing left over. -/
def decodesTo (words : List (List Byte × Instr)) : Bool := words.all fun w => decode w.1 == .instr w.2 []

theorem test_decode_primary_00 : decodesTo [
    ([0x00], .nop), ([0x01, 0x34, 0x12], .ldBcNn 0x1234), ([0x02], .ldAtBcA), ([0x03], .incBc), ([0x04], .incB),
    ([0x05], .decB), ([0x06, 0x9A], .ldBN 0x9A), ([0x07], .rlca), ([0x08, 0x34, 0x12], .ldAtNnSp 0x1234),
    ([0x09], .addHlBc), ([0x0A], .ldAAtBc), ([0x0B], .decBc), ([0x0C], .incC), ([0x0D], .decC),
    ([0x0E, 0x9A], .ldCN 0x9A), ([0x0F], .rrca)] = true := by decide

theorem test_decode_primary_10 : decodesTo [
    ([0x10, 0x9A], .djnzE 0x9A), ([0x11, 0x34, 0x12], .ldDeNn 0x1234), ([0x12], .ldAtDeA), ([0x13], .incDe),
    ([0x14], .incD), ([0x15], .decD), ([0x16, 0x9A], .ldDN 0x9A), ([0x17], .rla), ([0x18, 0x9A], .jrE 0x9A),
    ([0x19], .addHlDe), ([0x1A], .ldAAtDe), ([0x1B], .decDe), ([0x1C], .incE), ([0x1D], .decE),
    ([0x1E, 0x9A], .ldEN 0x9A), ([0x1F], .rra)] = true := by decide

theorem test_decode_primary_20 : decodesTo [
    ([0x20, 0x9A], .jrNzE 0x9A), ([0x21, 0x34, 0x12], .ldHlNn 0x1234), ([0x22], .ldAtHlIncA), ([0x23], .incHl),
    ([0x24], .incH), ([0x25], .decH), ([0x26, 0x9A], .ldHN 0x9A), ([0x27], .daa), ([0x28, 0x9A], .jrZE 0x9A),
    ([0x29], .addHlHl), ([0x2A], .ldAAtHlInc), ([0x2B], .decHl), ([0x2C], .incL), ([0x2D], .decL),
    ([0x2E, 0x9A], .ldLN 0x9A), ([0x2F], .cpl)] = true := by decide

theorem test_decode_primary_30 : decodesTo [
    ([0x30, 0x9A], .jrNcE 0x9A), ([0x31, 0x34, 0x12], .ldSpNn 0x1234), ([0x32], .ldAtHlDecA), ([0x33], .incSp),
    ([0x34], .incAtHl), ([0x35], .decAtHl), ([0x36, 0x9A], .ldAtHlN 0x9A), ([0x37], .scf),
    ([0x38, 0x9A], .jrCE 0x9A), ([0x39], .addHlSp), ([0x3A], .ldAAtHlDec), ([0x3B], .decSp), ([0x3C], .incA),
    ([0x3D], .decA), ([0x3E, 0x9A], .ldAN 0x9A), ([0x3F], .ccf)] = true := by decide

theorem test_decode_primary_40 : decodesTo [
    ([0x40], .ldBB), ([0x41], .ldBC), ([0x42], .ldBD), ([0x43], .ldBE), ([0x44], .ldBH), ([0x45], .ldBL),
    ([0x46], .ldBAtHl), ([0x47], .ldBA), ([0x48], .ldCB), ([0x49], .ldCC), ([0x4A], .ldCD), ([0x4B], .ldCE),
    ([0x4C], .ldCH), ([0x4D], .ldCL), ([0x4E], .ldCAtHl), ([0x4F], .ldCA)] = true := by decide

theorem test_decode_primary_50 : decodesTo [
    ([0x50], .ldDB), ([0x51], .ldDC), ([0x52], .ldDD), ([0x53], .ldDE), ([0x54], .ldDH), ([0x55], .ldDL),
    ([0x56], .ldDAtHl), ([0x57], .ldDA), ([0x58], .ldEB), ([0x59], .ldEC), ([0x5A], .ldED), ([0x5B], .ldEE),
    ([0x5C], .ldEH), ([0x5D], .ldEL), ([0x5E], .ldEAtHl), ([0x5F], .ldEA)] = true := by decide

theorem test_decode_primary_60 : decodesTo [
    ([0x60], .ldHB), ([0x61], .ldHC), ([0x62], .ldHD), ([0x63], .ldHE), ([0x64], .ldHH), ([0x65], .ldHL),
    ([0x66], .ldHAtHl), ([0x67], .ldHA), ([0x68], .ldLB), ([0x69], .ldLC), ([0x6A], .ldLD), ([0x6B], .ldLE),
    ([0x6C], .ldLH), ([0x6D], .ldLL), ([0x6E], .ldLAtHl), ([0x6F], .ldLA)] = true := by decide

theorem test_decode_primary_70 : decodesTo [
    ([0x70], .ldAtHlB), ([0x71], .ldAtHlC), ([0x72], .ldAtHlD), ([0x73], .ldAtHlE), ([0x74], .ldAtHlH),
    ([0x75], .ldAtHlL), ([0x76], .halt), ([0x77], .ldAtHlA), ([0x78], .ldAB), ([0x79], .ldAC), ([0x7A], .ldAD),
    ([0x7B], .ldAE), ([0x7C], .ldAH), ([0x7D], .ldAL), ([0x7E], .ldAAtHl), ([0x7F], .ldAA)] = true := by decide

theorem test_decode_primary_80 : decodesTo [
    ([0x80], .addAB), ([0x81], .addAC), ([0x82], .addAD), ([0x83], .addAE), ([0x84], .addAH), ([0x85], .addAL),
    ([0x86], .addAAtHl), ([0x87], .addAA), ([0x88], .adcAB), ([0x89], .adcAC), ([0x8A], .adcAD), ([0x8B], .adcAE),
    ([0x8C], .adcAH), ([0x8D], .adcAL), ([0x8E], .adcAAtHl), ([0x8F], .adcAA)] = true := by decide

theorem test_decode_primary_90 : decodesTo [
    ([0x90], .subB), ([0x91], .subC), ([0x92], .subD), ([0x93], .subE), ([0x94], .subH), ([0x95], .subL),
    ([0x96], .subAtHl), ([0x97], .subA), ([0x98], .sbcAB), ([0x99], .sbcAC), ([0x9A], .sbcAD), ([0x9B], .sbcAE),
    ([0x9C], .sbcAH), ([0x9D], .sbcAL), ([0x9E], .sbcAAtHl), ([0x9F], .sbcAA)] = true := by decide

theorem test_decode_primary_A0 : decodesTo [
    ([0xA0], .andB), ([0xA1], .andC), ([0xA2], .andD), ([0xA3], .andE), ([0xA4], .andH), ([0xA5], .andL),
    ([0xA6], .andAtHl), ([0xA7], .andA), ([0xA8], .xorB), ([0xA9], .xorC), ([0xAA], .xorD), ([0xAB], .xorE),
    ([0xAC], .xorH), ([0xAD], .xorL), ([0xAE], .xorAtHl), ([0xAF], .xorA)] = true := by decide

theorem test_decode_primary_B0 : decodesTo [
    ([0xB0], .orB), ([0xB1], .orC), ([0xB2], .orD), ([0xB3], .orE), ([0xB4], .orH), ([0xB5], .orL),
    ([0xB6], .orAtHl), ([0xB7], .orA), ([0xB8], .cpB), ([0xB9], .cpC), ([0xBA], .cpD), ([0xBB], .cpE),
    ([0xBC], .cpH), ([0xBD], .cpL), ([0xBE], .cpAtHl), ([0xBF], .cpA)] = true := by decide

theorem test_decode_primary_C0 : decodesTo [
    ([0xC0], .retNz), ([0xC1], .popBc), ([0xC2, 0x34, 0x12], .jpNzNn 0x1234), ([0xC3, 0x34, 0x12], .jpNn 0x1234),
    ([0xC4, 0x34, 0x12], .callNzNn 0x1234), ([0xC5], .pushBc), ([0xC6, 0x9A], .addAN 0x9A), ([0xC7], .rst00),
    ([0xC8], .retZ), ([0xC9], .ret), ([0xCA, 0x34, 0x12], .jpZNn 0x1234), ([0xCC, 0x34, 0x12], .callZNn 0x1234),
    ([0xCD, 0x34, 0x12], .callNn 0x1234), ([0xCE, 0x9A], .adcAN 0x9A), ([0xCF], .rst08)] = true := by decide

theorem test_decode_primary_D0 : decodesTo [
    ([0xD0], .retNc), ([0xD1], .popDe), ([0xD2, 0x34, 0x12], .jpNcNn 0x1234), ([0xD3], .illegalD3),
    ([0xD4, 0x34, 0x12], .callNcNn 0x1234), ([0xD5], .pushDe), ([0xD6, 0x9A], .subN 0x9A), ([0xD7], .rst10),
    ([0xD8], .retC), ([0xD9], .reti), ([0xDA, 0x34, 0x12], .jpCNn 0x1234), ([0xDB], .illegalDB),
    ([0xDC, 0x34, 0x12], .callCNn 0x1234), ([0xDD], .illegalDD), ([0xDE, 0x9A], .sbcAN 0x9A), ([0xDF], .rst18)] = true := by decide

theorem test_decode_primary_E0 : decodesTo [
    ([0xE0, 0x9A], .ldhAtNA 0x9A), ([0xE1], .popHl), ([0xE2], .ldAtCA), ([0xE3], .illegalE3), ([0xE4], .illegalE4),
    ([0xE5], .pushHl), ([0xE6, 0x9A], .andN 0x9A), ([0xE7], .rst20), ([0xE8, 0x9A], .addSpE 0x9A), ([0xE9], .jpHl),
    ([0xEA, 0x34, 0x12], .ldAtNnA 0x1234), ([0xEB], .illegalEB), ([0xEC], .illegalEC), ([0xED], .illegalED),
    ([0xEE, 0x9A], .xorN 0x9A), ([0xEF], .rst28)] = true := by decide

theorem test_decode_primary_F0 : decodesTo [
    ([0xF0, 0x9A], .ldhAAtN 0x9A), ([0xF1], .popAf), ([0xF2], .ldAAtC), ([0xF3], .di), ([0xF4], .illegalF4),
    ([0xF5], .pushAf), ([0xF6, 0x9A], .orN 0x9A), ([0xF7], .rst30), ([0xF8, 0x9A], .ldHlSpE 0x9A),
    ([0xF9], .ldSpHl), ([0xFA, 0x34, 0x12], .ldAAtNn 0x1234), ([0xFB], .ei), ([0xFC], .illegalFC),
    ([0xFD], .illegalFD), ([0xFE, 0x9A], .cpN 0x9A), ([0xFF], .rst38)] = true := by decide

theorem test_decode_cb_00 : decodesTo [
    ([0xCB, 0x00], .rlcB), ([0xCB, 0x01], .rlcC), ([0xCB, 0x02], .rlcD), ([0xCB, 0x03], .rlcE),
    ([0xCB, 0x04], .rlcH), ([0xCB, 0x05], .rlcL), ([0xCB, 0x06], .rlcAtHl), ([0xCB, 0x07], .rlcA),
    ([0xCB, 0x08], .rrcB), ([0xCB, 0x09], .rrcC), ([0xCB, 0x0A], .rrcD), ([0xCB, 0x0B], .rrcE),
    ([0xCB, 0x0C], .rrcH), ([0xCB, 0x0D], .rrcL), ([0xCB, 0x0E], .rrcAtHl), ([0xCB, 0x0F], .rrcA)] = true := by decide

theorem test_decode_cb_10 : decodesTo [
    ([0xCB, 0x10], .rlB), ([0xCB, 0x11], .rlC), ([0xCB, 0x12], .rlD), ([0xCB, 0x13], .rlE), ([0xCB, 0x14], .rlH),
    ([0xCB, 0x15], .rlL), ([0xCB, 0x16], .rlAtHl), ([0xCB, 0x17], .rlA), ([0xCB, 0x18], .rrB), ([0xCB, 0x19], .rrC),
    ([0xCB, 0x1A], .rrD), ([0xCB, 0x1B], .rrE), ([0xCB, 0x1C], .rrH), ([0xCB, 0x1D], .rrL), ([0xCB, 0x1E], .rrAtHl),
    ([0xCB, 0x1F], .rrA)] = true := by decide

theorem test_decode_cb_20 : decodesTo [
    ([0xCB, 0x20], .slaB), ([0xCB, 0x21], .slaC), ([0xCB, 0x22], .slaD), ([0xCB, 0x23], .slaE),
    ([0xCB, 0x24], .slaH), ([0xCB, 0x25], .slaL), ([0xCB, 0x26], .slaAtHl), ([0xCB, 0x27], .slaA),
    ([0xCB, 0x28], .sraB), ([0xCB, 0x29], .sraC), ([0xCB, 0x2A], .sraD), ([0xCB, 0x2B], .sraE),
    ([0xCB, 0x2C], .sraH), ([0xCB, 0x2D], .sraL), ([0xCB, 0x2E], .sraAtHl), ([0xCB, 0x2F], .sraA)] = true := by decide

theorem test_decode_cb_30 : decodesTo [
    ([0xCB, 0x30], .swapB), ([0xCB, 0x31], .swapC), ([0xCB, 0x32], .swapD), ([0xCB, 0x33], .swapE),
    ([0xCB, 0x34], .swapH), ([0xCB, 0x35], .swapL), ([0xCB, 0x36], .swapAtHl), ([0xCB, 0x37], .swapA),
    ([0xCB, 0x38], .srlB), ([0xCB, 0x39], .srlC), ([0xCB, 0x3A], .srlD), ([0xCB, 0x3B], .srlE),
    ([0xCB, 0x3C], .srlH), ([0xCB, 0x3D], .srlL), ([0xCB, 0x3E], .srlAtHl), ([0xCB, 0x3F], .srlA)] = true := by decide

theorem test_decode_cb_40 : decodesTo [
    ([0xCB, 0x40], .bit0B), ([0xCB, 0x41], .bit0C), ([0xCB, 0x42], .bit0D), ([0xCB, 0x43], .bit0E),
    ([0xCB, 0x44], .bit0H), ([0xCB, 0x45], .bit0L), ([0xCB, 0x46], .bit0AtHl), ([0xCB, 0x47], .bit0A),
    ([0xCB, 0x48], .bit1B), ([0xCB, 0x49], .bit1C), ([0xCB, 0x4A], .bit1D), ([0xCB, 0x4B], .bit1E),
    ([0xCB, 0x4C], .bit1H), ([0xCB, 0x4D], .bit1L), ([0xCB, 0x4E], .bit1AtHl), ([0xCB, 0x4F], .bit1A)] = true := by decide

theorem test_decode_cb_50 : decodesTo [
    ([0xCB, 0x50], .bit2B), ([0xCB, 0x51], .bit2C), ([0xCB, 0x52], .bit2D), ([0xCB, 0x53], .bit2E),
    ([0xCB, 0x54], .bit2H), ([0xCB, 0x55], .bit2L), ([0xCB, 0x56], .bit2AtHl), ([0xCB, 0x57], .bit2A),
    ([0xCB, 0x58], .bit3B), ([0xCB, 0x59], .bit3C), ([0xCB, 0x5A], .bit3D), ([0xCB, 0x5B], .bit3E),
    ([0xCB, 0x5C], .bit3H), ([0xCB, 0x5D], .bit3L), ([0xCB, 0x5E], .bit3AtHl), ([0xCB, 0x5F], .bit3A)] = true := by decide

theorem test_decode_cb_60 : decodesTo [
    ([0xCB, 0x60], .bit4B), ([0xCB, 0x61], .bit4C), ([0xCB, 0x62], .bit4D), ([0xCB, 0x63], .bit4E),
    ([0xCB, 0x64], .bit4H), ([0xCB, 0x65], .bit4L), ([0xCB, 0x66], .bit4AtHl), ([0xCB, 0x67], .bit4A),
    ([0xCB, 0x68], .bit5B), ([0xCB, 0x69], .bit5C), ([0xCB, 0x6A], .bit5D), ([0xCB, 0x6B], .bit5E),
    ([0xCB, 0x6C], .bit5H), ([0xCB, 0x6D], .bit5L), ([0xCB, 0x6E], .bit5AtHl), ([0xCB, 0x6F], .bit5A)] = true := by decide

theorem test_decode_cb_70 : decodesTo [
    ([0xCB, 0x70], .bit6B), ([0xCB, 0x71], .bit6C), ([0xCB, 0x72], .bit6D), ([0xCB, 0x73], .bit6E),
    ([0xCB, 0x74], .bit6H), ([0xCB, 0x75], .bit6L), ([0xCB, 0x76], .bit6AtHl), ([0xCB, 0x77], .bit6A),
    ([0xCB, 0x78], .bit7B), ([0xCB, 0x79], .bit7C), ([0xCB, 0x7A], .bit7D), ([0xCB, 0x7B], .bit7E),
    ([0xCB, 0x7C], .bit7H), ([0xCB, 0x7D], .bit7L), ([0xCB, 0x7E], .bit7AtHl), ([0xCB, 0x7F], .bit7A)] = true := by decide

theorem test_decode_cb_80 : decodesTo [
    ([0xCB, 0x80], .res0B), ([0xCB, 0x81], .res0C), ([0xCB, 0x82], .res0D), ([0xCB, 0x83], .res0E),
    ([0xCB, 0x84], .res0H), ([0xCB, 0x85], .res0L), ([0xCB, 0x86], .res0AtHl), ([0xCB, 0x87], .res0A),
    ([0xCB, 0x88], .res1B), ([0xCB, 0x89], .res1C), ([0xCB, 0x8A], .res1D), ([0xCB, 0x8B], .res1E),
    ([0xCB, 0x8C], .res1H), ([0xCB, 0x8D], .res1L), ([0xCB, 0x8E], .res1AtHl), ([0xCB, 0x8F], .res1A)] = true := by decide

theorem test_decode_cb_90 : decodesTo [
    ([0xCB, 0x90], .res2B), ([0xCB, 0x91], .res2C), ([0xCB, 0x92], .res2D), ([0xCB, 0x93], .res2E),
    ([0xCB, 0x94], .res2H), ([0xCB, 0x95], .res2L), ([0xCB, 0x96], .res2AtHl), ([0xCB, 0x97], .res2A),
    ([0xCB, 0x98], .res3B), ([0xCB, 0x99], .res3C), ([0xCB, 0x9A], .res3D), ([0xCB, 0x9B], .res3E),
    ([0xCB, 0x9C], .res3H), ([0xCB, 0x9D], .res3L), ([0xCB, 0x9E], .res3AtHl), ([0xCB, 0x9F], .res3A)] = true := by decide

theorem test_decode_cb_A0 : decodesTo [
    ([0xCB, 0xA0], .res4B), ([0xCB, 0xA1], .res4C), ([0xCB, 0xA2], .res4D), ([0xCB, 0xA3], .res4E),
    ([0xCB, 0xA4], .res4H), ([0xCB, 0xA5], .res4L), ([0xCB, 0xA6], .res4AtHl), ([0xCB, 0xA7], .res4A),
    ([0xCB, 0xA8], .res5B), ([0xCB, 0xA9], .res5C), ([0xCB, 0xAA], .res5D), ([0xCB, 0xAB], .res5E),
    ([0xCB, 0xAC], .res5H), ([0xCB, 0xAD], .res5L), ([0xCB, 0xAE], .res5AtHl), ([0xCB, 0xAF], .res5A)] = true := by decide

theorem test_decode_cb_B0 : decodesTo [
    ([0xCB, 0xB0], .res6B), ([0xCB, 0xB1], .res6C), ([0xCB, 0xB2], .res6D), ([0xCB, 0xB3], .res6E),
    ([0xCB, 0xB4], .res6H), ([0xCB, 0xB5], .res6L), ([0xCB, 0xB6], .res6AtHl), ([0xCB, 0xB7], .res6A),
    ([0xCB, 0xB8], .res7B), ([0xCB, 0xB9], .res7C), ([0xCB, 0xBA], .res7D), ([0xCB, 0xBB], .res7E),
    ([0xCB, 0xBC], .res7H), ([0xCB, 0xBD], .res7L), ([0xCB, 0xBE], .res7AtHl), ([0xCB, 0xBF], .res7A)] = true := by decide

theorem test_decode_cb_C0 : decodesTo [
    ([0xCB, 0xC0], .set0B), ([0xCB, 0xC1], .set0C), ([0xCB, 0xC2], .set0D), ([0xCB, 0xC3], .set0E),
    ([0xCB, 0xC4], .set0H), ([0xCB, 0xC5], .set0L), ([0xCB, 0xC6], .set0AtHl), ([0xCB, 0xC7], .set0A),
    ([0xCB, 0xC8], .set1B), ([0xCB, 0xC9], .set1C), ([0xCB, 0xCA], .set1D), ([0xCB, 0xCB], .set1E),
    ([0xCB, 0xCC], .set1H), ([0xCB, 0xCD], .set1L), ([0xCB, 0xCE], .set1AtHl), ([0xCB, 0xCF], .set1A)] = true := by decide

theorem test_decode_cb_D0 : decodesTo [
    ([0xCB, 0xD0], .set2B), ([0xCB, 0xD1], .set2C), ([0xCB, 0xD2], .set2D), ([0xCB, 0xD3], .set2E),
    ([0xCB, 0xD4], .set2H), ([0xCB, 0xD5], .set2L), ([0xCB, 0xD6], .set2AtHl), ([0xCB, 0xD7], .set2A),
    ([0xCB, 0xD8], .set3B), ([0xCB, 0xD9], .set3C), ([0xCB, 0xDA], .set3D), ([0xCB, 0xDB], .set3E),
    ([0xCB, 0xDC], .set3H), ([0xCB, 0xDD], .set3L), ([0xCB, 0xDE], .set3AtHl), ([0xCB, 0xDF], .set3A)] = true := by decide

theorem test_decode_cb_E0 : decodesTo [
    ([0xCB, 0xE0], .set4B), ([0xCB, 0xE1], .set4C), ([0xCB, 0xE2], .set4D), ([0xCB, 0xE3], .set4E),
    ([0xCB, 0xE4], .set4H), ([0xCB, 0xE5], .set4L), ([0xCB, 0xE6], .set4AtHl), ([0xCB, 0xE7], .set4A),
    ([0xCB, 0xE8], .set5B), ([0xCB, 0xE9], .set5C), ([0xCB, 0xEA], .set5D), ([0xCB, 0xEB], .set5E),
    ([0xCB, 0xEC], .set5H), ([0xCB, 0xED], .set5L), ([0xCB, 0xEE], .set5AtHl), ([0xCB, 0xEF], .set5A)] = true := by decide

theorem test_decode_cb_F0 : decodesTo [
    ([0xCB, 0xF0], .set6B), ([0xCB, 0xF1], .set6C), ([0xCB, 0xF2], .set6D), ([0xCB, 0xF3], .set6E),
    ([0xCB, 0xF4], .set6H), ([0xCB, 0xF5], .set6L), ([0xCB, 0xF6], .set6AtHl), ([0xCB, 0xF7], .set6A),
    ([0xCB, 0xF8], .set7B), ([0xCB, 0xF9], .set7C), ([0xCB, 0xFA], .set7D), ([0xCB, 0xFB], .set7E),
    ([0xCB, 0xFC], .set7H), ([0xCB, 0xFD], .set7L), ([0xCB, 0xFE], .set7AtHl), ([0xCB, 0xFF], .set7A)] = true := by decide

/-- The prefix alone is no instruction, and an instruction cut short is none (R66). -/
theorem test_decode_truncated :
    [decode [], decode [0xCB], decode [0xC3, 0x34], decode [0x06]].all (· == .truncated) = true := by decide

end Sys2Proof
end

