-- ==== Sys2Proof/Tests/Slice0.lean ====
section
/-! SUPPORT. Tests: the WellFormed smoke, vectors of spec/95_test_vectors.md (the id of the vector is in the name), each
one step, and for every obligation with hypotheses a state and operands that meet them. -/

namespace Sys2Proof.Machine

/-! ### Well-formedness -/

/-- The bare prefix is refused, whatever byte it carries; every other shape is accepted. -/
theorem test_wellFormed :
    (Instr.prefixCb 0x00).wellFormed = false ∧ (Instr.prefixCb 0xFF).wellFormed = false ∧
      (Instr.ldBcNn 0xFFFF).wellFormed = true ∧ Instr.rlcB.wellFormed = true := by decide

/-! ### Vectors -/

/-- A state after reset with a program's bytes at PC. -/
def program (pc : Word) (bytes : List Byte) : State :=
  match bytes with
  | [b0] => { State.reset.poke pc b0 with pc := pc }
  | [b0, b1] => { (State.reset.poke pc b0).poke (pc + 1) b1 with pc := pc }
  | [b0, b1, b2] => { ((State.reset.poke pc b0).poke (pc + 1) b1).poke (pc + 2) b2 with pc := pc }
  | _ => State.reset

/-- One step gives the state with R one further, the cost `m` set and accounted, and `change` made: nothing else. -/
def steps (s : State) (m : Nat) (change : State → State) : Bool :=
  match step s with
  | .next t => t == change { s with r := s.r + 1, m := m, t := 4 * m, clkM := s.clkM + m, clkT := s.clkT + 4 * m }
  | _ => false

/-- `ADD A,B` -/
theorem test_VA1_ADD_A_B :
    steps ({ program 0x0100 [0x80] with a := 0x3A, b := 0xC6, f := 0x00 }) 1
      (fun u => { u with a := 0x00, f := 0xB0, pc := 0x0101 }) = true := by decide

/-- `ADD A,A` -/
theorem test_VA3_ADD_A_A :
    steps ({ program 0x0100 [0x87] with a := 0x80, f := 0x00 }) 1
      (fun u => { u with a := 0x00, f := 0x90, pc := 0x0101 }) = true := by decide

/-- `ADD A,(HL)` -/
theorem test_VA4_ADD_A_AtHl :
    steps (({ program 0x0100 [0x86] with a := 0x3C, h := 0xC0, l := 0x00, f := 0x00 }).poke 0xC000 0x12) 2
      (fun u => { u with a := 0x4E, f := 0x00, pc := 0x0101 }) = true := by decide

/-- `ADC A,E` -/
theorem test_VA6_ADC_A_E :
    steps ({ program 0x0100 [0x8B] with a := 0xE1, e := 0x0F, f := 0x10 }) 1
      (fun u => { u with a := 0xF1, f := 0x20, pc := 0x0101 }) = true := by decide

/-- `ADC A,(HL)` -/
theorem test_VA8_ADC_A_AtHl :
    steps (({ program 0x0100 [0x8E] with a := 0xE1, h := 0xC0, l := 0x00, f := 0x10 }).poke 0xC000 0x1E) 2
      (fun u => { u with a := 0x00, f := 0xB0, pc := 0x0101 }) = true := by decide

/-- `ADC A,B` -/
theorem test_VA9_ADC_A_B :
    steps ({ program 0x0100 [0x88] with a := 0xFF, b := 0x00, f := 0x10 }) 1
      (fun u => { u with a := 0x00, f := 0xB0, pc := 0x0101 }) = true := by decide

/-- `ADC A,B` -/
theorem test_VA10_ADC_A_B :
    steps ({ program 0x0100 [0x88] with a := 0x0F, b := 0x00, f := 0x00 }) 1
      (fun u => { u with f := 0x00, pc := 0x0101 }) = true := by decide

/-- `SUB (HL)` -/
theorem test_VA13_SUB_AtHl :
    steps (({ program 0x0100 [0x96] with a := 0x3E, h := 0xC0, l := 0x00, f := 0x00 }).poke 0xC000 0x40) 2
      (fun u => { u with a := 0xFE, f := 0x50, pc := 0x0101 }) = true := by decide

/-- `SBC A,(HL)` -/
theorem test_VA17_SBC_A_AtHl :
    steps (({ program 0x0100 [0x9E] with a := 0x3B, h := 0xC0, l := 0x00, f := 0x10 }).poke 0xC000 0x4F) 2
      (fun u => { u with a := 0xEB, f := 0x70, pc := 0x0101 }) = true := by decide

/-- `SBC A,B` -/
theorem test_VA18_SBC_A_B :
    steps ({ program 0x0100 [0x98] with a := 0x00, b := 0xFF, f := 0x10 }) 1
      (fun u => { u with f := 0xF0, pc := 0x0101 }) = true := by decide

/-- `SBC A,A` -/
theorem test_VA19_SBC_A_A :
    steps ({ program 0x0100 [0x9F] with a := 0x77, f := 0x10 }) 1
      (fun u => { u with a := 0xFF, f := 0x70, pc := 0x0101 }) = true := by decide

/-- `AND L` -/
theorem test_VA20_AND_L :
    steps ({ program 0x0100 [0xA5] with a := 0x5A, l := 0x3F, f := 0x10 }) 1
      (fun u => { u with a := 0x1A, f := 0x20, pc := 0x0101 }) = true := by decide

/-- `AND (HL)` -/
theorem test_VA22_AND_AtHl :
    steps (({ program 0x0100 [0xA6] with a := 0x5A, h := 0xC0, l := 0x00, f := 0x00 }).poke 0xC000 0x00) 2
      (fun u => { u with a := 0x00, f := 0xA0, pc := 0x0101 }) = true := by decide

/-- `XOR A` -/
theorem test_VA23_XOR_A :
    steps ({ program 0x0100 [0xAF] with a := 0xFF, f := 0xF0 }) 1
      (fun u => { u with a := 0x00, f := 0x80, pc := 0x0101 }) = true := by decide

/-- `OR (HL)` -/
theorem test_VA28_OR_AtHl :
    steps (({ program 0x0100 [0xB6] with a := 0x00, h := 0xC0, l := 0x00, f := 0x10 }).poke 0xC000 0x00) 2
      (fun u => { u with f := 0x80, pc := 0x0101 }) = true := by decide

/-- `CP B` -/
theorem test_VA29_CP_B :
    steps ({ program 0x0100 [0xB8] with a := 0x3C, b := 0x2F, f := 0x00 }) 1
      (fun u => { u with a := 0x3C, f := 0x60, pc := 0x0101 }) = true := by decide

/-- `INC A` -/
theorem test_VA32_INC_A :
    steps ({ program 0x0100 [0x3C] with a := 0xFF, f := 0x10 }) 1
      (fun u => { u with a := 0x00, f := 0xB0, pc := 0x0101 }) = true := by decide

/-- `INC (HL)` -/
theorem test_VA34_INC_AtHl :
    steps (({ program 0x0100 [0x34] with h := 0xC0, l := 0x00, f := 0x00 }).poke 0xC000 0x50) 3
      (fun u => ({ u with f := 0x00, pc := 0x0101 }).poke 0xC000 0x51) = true := by decide

/-- `DEC C` -/
theorem test_VA36_DEC_C :
    steps ({ program 0x0100 [0x0D] with c := 0x00, f := 0x00 }) 1
      (fun u => { u with f := 0x60, c := 0xFF, pc := 0x0101 }) = true := by decide

/-- `DEC (HL)` -/
theorem test_VA38_DEC_AtHl :
    steps (({ program 0x0100 [0x35] with h := 0xC0, l := 0x00, f := 0x00 }).poke 0xC000 0x00) 3
      (fun u => ({ u with f := 0x60, pc := 0x0101 }).poke 0xC000 0xFF) = true := by decide

/-- `CPL` -/
theorem test_VA39_CPL :
    steps ({ program 0x0100 [0x2F] with a := 0x35, f := 0x90 }) 1
      (fun u => { u with a := 0xCA, f := 0xF0, pc := 0x0101 }) = true := by decide

/-- `CCF` -/
theorem test_VA40_CCF :
    steps ({ program 0x0100 [0x3F] with f := 0xF0 }) 1
      (fun u => { u with f := 0x80, pc := 0x0101 }) = true := by decide

/-- `SCF` -/
theorem test_VA42_SCF :
    steps ({ program 0x0100 [0x37] with f := 0xE0 }) 1
      (fun u => { u with f := 0x90, pc := 0x0101 }) = true := by decide

/-- `DAA` -/
theorem test_VA43_DAA :
    steps ({ program 0x0100 [0x27] with a := 0x7D, f := 0x00 }) 1
      (fun u => { u with a := 0x83, f := 0x00, pc := 0x0101 }) = true := by decide

/-- `DAA` -/
theorem test_VA44_DAA :
    steps ({ program 0x0100 [0x27] with a := 0x9A, f := 0x00 }) 1
      (fun u => { u with a := 0x00, f := 0x90, pc := 0x0101 }) = true := by decide

/-- `DAA` -/
theorem test_VA45_DAA :
    steps ({ program 0x0100 [0x27] with a := 0x05, f := 0x60 }) 1
      (fun u => { u with a := 0xFF, f := 0x40, pc := 0x0101 }) = true := by decide

/-- `ADD HL,BC` -/
theorem test_VB1_ADD_HL_BC :
    steps ({ program 0x0100 [0x09] with h := 0x8A, l := 0x23, b := 0x06, c := 0x05, f := 0xE0 }) 2
      (fun u => { u with f := 0xE0, h := 0x90, l := 0x28, pc := 0x0101 }) = true := by decide

/-- `ADD HL,HL` -/
theorem test_VB3_ADD_HL_HL :
    steps ({ program 0x0100 [0x29] with h := 0x80, l := 0x00, f := 0xE0 }) 2
      (fun u => { u with f := 0xF0, h := 0x00, pc := 0x0101 }) = true := by decide

/-- `ADD HL,SP` -/
theorem test_VB4_ADD_HL_SP :
    steps ({ program 0x0100 [0x39] with h := 0x12, l := 0x34, sp := 0xF000, f := 0x80 }) 2
      (fun u => { u with f := 0x90, h := 0x02, sp := 0xF000, pc := 0x0101 }) = true := by decide

/-- `DEC HL` -/
theorem test_VB8_DEC_HL :
    steps ({ program 0x0100 [0x2B] with h := 0x00, l := 0x00, f := 0xA0 }) 2
      (fun u => { u with f := 0xA0, h := 0xFF, l := 0xFF, pc := 0x0101 }) = true := by decide

/-- `DEC SP` -/
theorem test_VB10_DEC_SP :
    steps ({ program 0x0100 [0x3B] with sp := 0x0000, f := 0x00 }) 2
      (fun u => { u with f := 0x00, sp := 0xFFFF, pc := 0x0101 }) = true := by decide

/-- `ADD SP,e` -/
theorem test_VB11_ADD_SP_e :
    steps ({ program 0x0100 [0xE8, 0x02] with sp := 0xFFF8, f := 0xF0 }) 4
      (fun u => { u with f := 0x00, sp := 0xFFFA, pc := 0x0102 }) = true := by decide

/-- `ADD SP,e` -/
theorem test_VB13_ADD_SP_e :
    steps ({ program 0x0100 [0xE8, 0x80] with sp := 0x0100, f := 0x00 }) 4
      (fun u => { u with f := 0x00, sp := 0x0080, pc := 0x0102 }) = true := by decide

/-- `RLCA` -/
theorem test_VC1_RLCA :
    steps ({ program 0x0100 [0x07] with a := 0x80, f := 0x00 }) 1
      (fun u => { u with a := 0x01, f := 0x10, pc := 0x0101 }) = true := by decide

/-- `RLCA` -/
theorem test_VC2_RLCA :
    steps ({ program 0x0100 [0x07] with a := 0x00, f := 0xF0 }) 1
      (fun u => { u with f := 0x00, pc := 0x0101 }) = true := by decide

/-- `RRCA` -/
theorem test_VC5_RRCA :
    steps ({ program 0x0100 [0x0F] with a := 0x01, f := 0x00 }) 1
      (fun u => { u with a := 0x80, f := 0x10, pc := 0x0101 }) = true := by decide

/-- `RRA` -/
theorem test_VC7_RRA :
    steps ({ program 0x0100 [0x1F] with a := 0x00, f := 0x10 }) 1
      (fun u => { u with a := 0x80, f := 0x00, pc := 0x0101 }) = true := by decide

/-- `RLC B` -/
theorem test_VC8_RLC_B :
    steps ({ program 0x0100 [0xCB, 0x00] with b := 0x85, f := 0x00 }) 2
      (fun u => { u with f := 0x10, b := 0x0B, pc := 0x0102 }) = true := by decide

/-- `RLC (HL)` -/
theorem test_VC9_RLC_AtHl :
    steps (({ program 0x0100 [0xCB, 0x06] with h := 0xC0, l := 0x00, f := 0x10 }).poke 0xC000 0x00) 4
      (fun u => ({ u with f := 0x80, pc := 0x0102 }).poke 0xC000 0x00) = true := by decide

/-- `RRC (HL)` -/
theorem test_VC11_RRC_AtHl :
    steps (({ program 0x0100 [0xCB, 0x0E] with h := 0xC0, l := 0x00, f := 0x00 }).poke 0xC000 0x02) 4
      (fun u => ({ u with f := 0x00, pc := 0x0102 }).poke 0xC000 0x01) = true := by decide

/-- `RL L` -/
theorem test_VC12_RL_L :
    steps ({ program 0x0100 [0xCB, 0x15] with l := 0x80, f := 0x00 }) 2
      (fun u => { u with f := 0x90, l := 0x00, pc := 0x0102 }) = true := by decide

/-- `RL (HL)` -/
theorem test_VC13_RL_AtHl :
    steps (({ program 0x0100 [0xCB, 0x16] with h := 0xC0, l := 0x00, f := 0x10 }).poke 0xC000 0x11) 4
      (fun u => ({ u with f := 0x00, pc := 0x0102 }).poke 0xC000 0x23) = true := by decide

/-- `SLA D` -/
theorem test_VC16_SLA_D :
    steps ({ program 0x0100 [0xCB, 0x22] with d := 0x80, f := 0x00 }) 2
      (fun u => { u with f := 0x90, d := 0x00, pc := 0x0102 }) = true := by decide

/-- `SRA A` -/
theorem test_VC18_SRA_A :
    steps ({ program 0x0100 [0xCB, 0x2F] with a := 0x8A, f := 0x00 }) 2
      (fun u => { u with a := 0xC5, f := 0x00, pc := 0x0102 }) = true := by decide

/-- `SWAP A` -/
theorem test_VC20_SWAP_A :
    steps ({ program 0x0100 [0xCB, 0x37] with a := 0xF0, f := 0xF0 }) 2
      (fun u => { u with a := 0x0F, f := 0x00, pc := 0x0102 }) = true := by decide

/-- `SWAP (HL)` -/
theorem test_VC22_SWAP_AtHl :
    steps (({ program 0x0100 [0xCB, 0x36] with h := 0xC0, l := 0x00, f := 0x00 }).poke 0xC000 0xA5) 4
      (fun u => ({ u with f := 0x00, pc := 0x0102 }).poke 0xC000 0x5A) = true := by decide

/-- `SRL (HL)` -/
theorem test_VC24_SRL_AtHl :
    steps (({ program 0x0100 [0xCB, 0x3E] with h := 0xC0, l := 0x00, f := 0x00 }).poke 0xC000 0xFF) 4
      (fun u => ({ u with f := 0x10, pc := 0x0102 }).poke 0xC000 0x7F) = true := by decide

/-- `BIT 7,A` -/
theorem test_VC25_BIT_7_A :
    steps ({ program 0x0100 [0xCB, 0x7F] with a := 0x80, f := 0x50 }) 2
      (fun u => { u with a := 0x80, f := 0x30, pc := 0x0102 }) = true := by decide

/-- `BIT 0,(HL)` -/
theorem test_VC27_BIT_0_AtHl :
    steps (({ program 0x0100 [0xCB, 0x46] with h := 0xC0, l := 0x00, f := 0x00 }).poke 0xC000 0xFE) 3
      (fun u => { u with f := 0xA0, pc := 0x0102 }) = true := by decide

/-- `(CB 0x87: RES 0,A) default` -/
theorem test_VC29_CB_0x87_RES_0_A_default :
    steps ({ program 0x0100 [0xCB, 0x87] with a := 0xFF, f := 0x00 }) 0
      (fun u => { u with a := 0xFF, f := 0x00, pc := 0x0102, stop := true, reports := [⟨0x0100, 0x87⟩] }) = true := by decide

/-- `RES 0,A (implemented)` -/
theorem test_VC30_RES_0_A_implemented :
    steps ({ program 0x0100 [0xCB, 0x87] with a := 0xFF, f := 0xF0, cbResSet := .implemented }) 2
      (fun u => { u with a := 0xFE, f := 0xF0, pc := 0x0102 }) = true := by decide

/-- `RES 7,(HL) (implemented)` -/
theorem test_VC31_RES_7_AtHl_implemented :
    steps (({ program 0x0100 [0xCB, 0xBE] with h := 0xC0, l := 0x00, f := 0x00, cbResSet := .implemented }).poke 0xC000 0xFF) 4
      (fun u => ({ u with f := 0x00, pc := 0x0102 }).poke 0xC000 0x7F) = true := by decide

/-- `SET 7,(HL) (implemented)` -/
theorem test_VC33_SET_7_AtHl_implemented :
    steps (({ program 0x0100 [0xCB, 0xFE] with h := 0xC0, l := 0x00, f := 0x00, cbResSet := .implemented }).poke 0xC000 0x00) 4
      (fun u => ({ u with f := 0x00, pc := 0x0102 }).poke 0xC000 0x80) = true := by decide

/-- `LD B,C` -/
theorem test_VD1_LD_B_C :
    steps ({ program 0x0100 [0x41] with c := 0x5A, f := 0xF0 }) 1
      (fun u => { u with f := 0xF0, b := 0x5A, pc := 0x0101 }) = true := by decide

/-- `LD H,(HL)` -/
theorem test_VD3_LD_H_AtHl :
    steps (({ program 0x0100 [0x66] with h := 0xC0, l := 0x10 }).poke 0xC010 0x99) 2
      (fun u => { u with h := 0x99, pc := 0x0101 }) = true := by decide

/-- `LD (HL),L` -/
theorem test_VD4_LD_AtHl_L :
    steps ({ program 0x0100 [0x75] with h := 0xC0, l := 0x10 }) 2
      (fun u => ({ u with pc := 0x0101 }).poke 0xC010 0x10) = true := by decide

/-- `LD (HL),n` -/
theorem test_VD6_LD_AtHl_n :
    steps ({ program 0x0100 [0x36, 0xAB] with h := 0x8A, l := 0xC5 }) 3
      (fun u => ({ u with pc := 0x0102 }).poke 0x8AC5 0xAB) = true := by decide

/-- `LD A,(BC)` -/
theorem test_VD7_LD_A_BC :
    steps (({ program 0x0100 [0x0A] with b := 0xC1, c := 0x00 }).poke 0xC100 0x2F) 2
      (fun u => { u with a := 0x2F, pc := 0x0101 }) = true := by decide

/-- `LD (HL+),A` -/
theorem test_VD11_LD_AtHlInc_A :
    steps ({ program 0x0100 [0x22] with a := 0x56, h := 0xFF, l := 0xFF }) 2
      (fun u => ({ u with h := 0x00, l := 0x00, pc := 0x0101 }).poke 0xFFFF 0x56) = true := by decide

/-- `LD A,(HL+)` -/
theorem test_VD12_LD_A_AtHlInc :
    steps (({ program 0x0100 [0x2A] with h := 0xC1, l := 0xFF }).poke 0xC1FF 0x56) 2
      (fun u => { u with a := 0x56, h := 0xC2, l := 0x00, pc := 0x0101 }) = true := by decide

/-- `LD (HL-),A` -/
theorem test_VD13_LD_AtHlDec_A :
    steps ({ program 0x0100 [0x32] with a := 0x05, h := 0x40, l := 0x00 }) 2
      (fun u => ({ u with h := 0x3F, l := 0xFF, pc := 0x0101 }).poke 0x4000 0x05) = true := by decide

/-- `LD A,(HL-)` -/
theorem test_VD14_LD_A_AtHlDec :
    steps (({ program 0x0100 [0x3A] with h := 0x8A, l := 0x5C }).poke 0x8A5C 0x3C) 2
      (fun u => { u with a := 0x3C, l := 0x5B, pc := 0x0101 }) = true := by decide

/-- `LD BC,nn` -/
theorem test_VD15_LD_BC_nn :
    steps (program 0x0100 [0x01, 0x34, 0x12]) 3
      (fun u => { u with b := 0x12, c := 0x34, pc := 0x0103 }) = true := by decide

/-- `LD (nn),A` -/
theorem test_VD18_LD_nn_A :
    steps ({ program 0x0100 [0xEA, 0x00, 0xC0] with a := 0x42 }) 4
      (fun u => ({ u with pc := 0x0103 }).poke 0xC000 0x42) = true := by decide

/-- `LD A,(nn)` -/
theorem test_VD19_LD_A_nn :
    steps ((program 0x0100 [0xFA, 0x00, 0x80]).poke 0x8000 0x77) 4
      (fun u => { u with a := 0x77, pc := 0x0103 }) = true := by decide

/-- `LDH A,(n)` -/
theorem test_VD21_LDH_A_n :
    steps ((program 0x0100 [0xF0, 0xFF]).poke 0xFFFF 0x1F) 3
      (fun u => { u with a := 0x1F, pc := 0x0102 }) = true := by decide

/-- `LD (C),A` -/
theorem test_VD22_LD_C_A :
    steps ({ program 0x0100 [0xE2] with a := 0x99, c := 0x9F }) 2
      (fun u => ({ u with pc := 0x0101 }).poke 0xFF9F 0x99) = true := by decide

/-- `LD A,(C)` -/
theorem test_VD23_LD_A_C :
    steps (({ program 0x0100 [0xF2] with c := 0x95 }).poke 0xFF95 0x33) 2
      (fun u => { u with a := 0x33, pc := 0x0101 }) = true := by decide

/-- `LD HL,SP+e` -/
theorem test_VD25_LD_HL_SP_e :
    steps ({ program 0x0100 [0xF8, 0xFF] with sp := 0x0000, f := 0xF0 }) 3
      (fun u => { u with f := 0x00, h := 0xFF, l := 0xFF, pc := 0x0102 }) = true := by decide

/-- `LD HL,SP+e` -/
theorem test_VD26_LD_HL_SP_e :
    steps ({ program 0x0100 [0xF8, 0x0F] with sp := 0x00F1, f := 0x00 }) 3
      (fun u => { u with f := 0x30, h := 0x01, pc := 0x0102 }) = true := by decide

/-- `LD (nn),SP` -/
theorem test_VD29_LD_nn_SP :
    steps ({ program 0x0100 [0x08, 0xFF, 0xFF] with sp := 0x1234 }) 5
      (fun u => (({ u with pc := 0x0103 }).poke 0xFFFF 0x34).poke 0x0000 0x12) = true := by decide

/-- `PUSH AF` -/
theorem test_VD31_PUSH_AF :
    steps ({ program 0x0100 [0xF5] with a := 0x12, f := 0xB0, sp := 0xD000 }) 3
      (fun u => (({ u with sp := 0xCFFE, pc := 0x0101 }).poke 0xCFFF 0x12).poke 0xCFFE 0xB0) = true := by decide

/-- `PUSH HL` -/
theorem test_VD32_PUSH_HL :
    steps ({ program 0x0100 [0xE5] with h := 0xAB, l := 0xCD, sp := 0x0001 }) 3
      (fun u => (({ u with sp := 0xFFFF, pc := 0x0101 }).poke 0x0000 0xAB).poke 0xFFFF 0xCD) = true := by decide

/-- `POP AF` -/
theorem test_VD34_POP_AF :
    steps ((({ program 0x0100 [0xF1] with sp := 0xFFFC }).poke 0xFFFC 0xFF).poke 0xFFFD 0x12) 3
      (fun u => { u with a := 0x12, f := 0xF0, sp := 0xFFFE, pc := 0x0101 }) = true := by decide

/-- `POP HL` -/
theorem test_VD35_POP_HL :
    steps ((({ program 0x0100 [0xE1] with sp := 0xFFFF }).poke 0xFFFF 0xCD).poke 0x0000 0xAB) 3
      (fun u => { u with h := 0xAB, l := 0xCD, sp := 0x0001, pc := 0x0101 }) = true := by decide

/-- `JP NZ,nn` -/
theorem test_VE3_JP_NZ_nn :
    steps ({ program 0x0100 [0xC2, 0x00, 0x80] with f := 0x80 }) 3
      (fun u => { u with pc := 0x0103 }) = true := by decide

/-- `JP Z,nn` -/
theorem test_VE4_JP_Z_nn :
    steps ({ program 0x0100 [0xCA, 0x00, 0x80] with f := 0x80 }) 4
      (fun u => { u with pc := 0x8000 }) = true := by decide

/-- `JP (HL)` -/
theorem test_VE7_JP_AtHl :
    steps ({ program 0x0100 [0xE9] with h := 0x80, l := 0x00 }) 1
      (fun u => { u with pc := 0x8000 }) = true := by decide

/-- `JR e` -/
theorem test_VE10_JR_e :
    steps (program 0x0100 [0x18, 0x80]) 3 (fun u => { u with pc := 0x0082 }) = true := by decide

/-- `JR e` -/
theorem test_VE11_JR_e :
    steps (program 0xFFF8 [0x18, 0x10]) 3 (fun u => { u with pc := 0x000A }) = true := by decide

/-- `JR NZ,e` -/
theorem test_VE13_JR_NZ_e :
    steps ({ program 0x0100 [0x20, 0xFE] with f := 0x80 }) 2 (fun u => { u with pc := 0x0102 }) = true := by decide

/-- `DJNZ e` -/
theorem test_VE17_DJNZ_e :
    steps ({ program 0x0100 [0x10, 0xFE] with b := 0x02, f := 0xF0 }) 3
      (fun u => { u with f := 0xF0, b := 0x01, pc := 0x0100 }) = true := by decide

/-- `DJNZ e` -/
theorem test_VE18_DJNZ_e :
    steps ({ program 0x0100 [0x10, 0xFE] with b := 0x01, f := 0x00 }) 2
      (fun u => { u with f := 0x00, b := 0x00, pc := 0x0102 }) = true := by decide

/-- `CALL nn` -/
theorem test_VE21_CALL_nn :
    steps ({ program 0x0150 [0xCD, 0x00, 0x40] with sp := 0x0001 }) 6
      (fun u => (({ u with sp := 0xFFFF, pc := 0x4000 }).poke 0x0000 0x01).poke 0xFFFF 0x53) = true := by decide

/-- `CALL NZ,nn` -/
theorem test_VE22_CALL_NZ_nn :
    steps ({ program 0x0150 [0xC4, 0x00, 0x40] with sp := 0xFFFE, f := 0x80 }) 3
      (fun u => { u with sp := 0xFFFE, pc := 0x0153 }) = true := by decide

/-- `RET` -/
theorem test_VE24_RET :
    steps ((({ program 0x4000 [0xC9] with sp := 0xFFFC, ime := false }).poke 0xFFFC 0x53).poke 0xFFFD 0x01) 4
      (fun u => { u with sp := 0xFFFE, pc := 0x0153, ime := false }) = true := by decide

/-- `RET Z` -/
theorem test_VE25_RET_Z :
    steps ((({ program 0x4000 [0xC8] with sp := 0xFFFC, f := 0x00 }).poke 0xFFFC 0x53).poke 0xFFFD 0x01) 2
      (fun u => { u with sp := 0xFFFC, pc := 0x4001 }) = true := by decide

/-- `RET Z` -/
theorem test_VE26_RET_Z :
    steps ((({ program 0x4000 [0xC8] with sp := 0xFFFC, f := 0x80 }).poke 0xFFFC 0x53).poke 0xFFFD 0x01) 5
      (fun u => { u with sp := 0xFFFE, pc := 0x0153 }) = true := by decide

/-- `RETI` -/
theorem test_VE28_RETI :
    steps ((({ program 0x4000 [0xD9] with sp := 0xFFFC, ime := false }).poke 0xFFFC 0x53).poke 0xFFFD 0x01) 4
      (fun u => { u with sp := 0xFFFE, pc := 0x0153, ime := true }) = true := by decide

/-- `RST 38H` -/
theorem test_VE30_RST_38H :
    steps ({ program 0x0200 [0xFF] with sp := 0xFFFE }) 4
      (fun u => (({ u with sp := 0xFFFC, pc := 0x0038 }).poke 0xFFFD 0x02).poke 0xFFFC 0x01) = true := by decide

/-- `RST 00H` -/
theorem test_VE31_RST_00H :
    steps ({ program 0xFFFF [0xC7] with sp := 0xD000 }) 4
      (fun u => (({ u with sp := 0xCFFE, pc := 0x0000 }).poke 0xCFFF 0x00).poke 0xCFFE 0x00) = true := by decide

/-- `NOP` -/
theorem test_VE32_NOP :
    steps ({ program 0x0100 [0x00] with f := 0xF0 }) 1
      (fun u => { u with f := 0xF0, pc := 0x0101 }) = true := by decide

/-- `HALT` -/
theorem test_VE33_HALT :
    steps (program 0x0100 [0x76]) 1 (fun u => { u with pc := 0x0101, halt := true }) = true := by decide

/-- `DI` -/
theorem test_VE34_DI :
    steps ({ program 0x0100 [0xF3] with ime := true }) 1
      (fun u => { u with pc := 0x0101, ime := false }) = true := by decide

/-- `EI` -/
theorem test_VE35_EI :
    steps ({ program 0x0100 [0xFB] with ime := false }) 1
      (fun u => { u with pc := 0x0101, ime := true }) = true := by decide

/-- `(illegal 0xD3)` -/
theorem test_VF1_illegal_0xD3 :
    steps ({ program 0x0300 [0xD3] with a := 0x11, f := 0x50, sp := 0xFFFE }) 0
      (fun u => { u with pc := 0x0301, stop := true, reports := [⟨0x0300, 0xD3⟩] }) = true := by decide

/-- `(CB 0x80)` -/
theorem test_VF12_CB_0x80 :
    steps ({ program 0x0300 [0xCB, 0x80] with b := 0xFF }) 0
      (fun u => { u with pc := 0x0302, stop := true, reports := [⟨0x0300, 0x80⟩] }) = true := by decide

/-- `(CB at 0xFFFF)` -/
theorem test_VF14_CB_at_0xFFFF :
    steps ({ program 0xFFFF [0xCB, 0x37] with a := 0xF0 }) 2
      (fun u => { u with a := 0x0F, f := 0x00, pc := 0x0001 }) = true := by decide

/-! ### Host operations -/

/-- VG1, with an INIT of its own. -/
theorem test_VG1_reset :
    let init : Init :=
      { a := 1, b := 2, c := 3, d := 4, e := 5, h := 6, l := 7, flags := 0xB, pc := 0x0100, sp := 0xFFFE, r := 9 }
    let s := { program 0x4321 [0x76] with a := 0x12, f := 0xF0, ime := false, halt := true, stop := true, m := 3, t := 12, r := 77, clkM := 1000, clkT := 4000 }
    let t := s.hostReset init
    t.f = 0xB0 ∧ t.sp = 0xFFFE ∧ t.ime = true ∧ t.halt = false ∧ t.stop = false ∧ t.clkT = 0 ∧ t.mem = s.mem := by
  decide

/-- VG2: the interrupt entry wakes a halted core, pushes PC and goes to the vector; R is not incremented. -/
theorem test_VG2_interruptEntry :
    let s := { State.reset with pc := 0x1234, sp := 0xFFFE, halt := true, clkM := 10, clkT := 40 }
    (match s.interruptEntry .v40 with
      | .next t => t == { (s.poke 0xFFFD 0x12).poke 0xFFFC 0x34 with
          sp := 0xFFFC, pc := 0x40, ime := false, halt := false, m := 4, t := 16, clkM := 14, clkT := 56 }
      | _ => false) = true := by decide

/-- VG4, VG5, VG7: a stopped core takes no interrupt; resuming clears `stop` alone, stopping sets it alone. -/
theorem test_VG4_VG5_VG7_stop :
    let s := { State.reset with stop := true, pc := 0x301, sp := 0xFFFE }
    (match s.interruptEntry .v48 with
      | .next t => t == s
      | _ => false) = true ∧
    s.hostResume = { s with stop := false } ∧ s.hostResume.hostStop = s := by decide

/-- VF15, VF16, VG8: a held core is unchanged by a step. -/
theorem test_VF15_VF16_held :
    [{ program 0x100 [0x3C] with halt := true }, { program 0x100 [0x3C] with stop := true }].all (fun s =>
      match step s with
      | .next t => t == s
      | _ => false) = true := by decide

/-- A table word placed at PC is what the next step runs, its missing operand bits zero. -/
theorem test_withFetchWord :
    steps (State.reset.withFetchWord 8 0x01) 3 (fun u => { u with pc := 3 }) = true ∧
      decodeTableWord 8 0x01 = some (.ldBcNn 0) ∧ decodeTableWord 16 0x37CB = some .swapA ∧
      decodeTableWord 8 0xCB = some .rlcB := by decide

/-! ### MEM as an oracle (R41, R49): not a RAM -/

/-- LD A,(HL): the read gets what a device answers, not the byte of the RAM. -/
theorem test_device_answers_read :
    steps (({ program 0x0100 [0x7E] with h := 0xC0, answers := [(0xC000, .device 0x5A)] }).poke 0xC000 0x11) 2
      (fun u => { u with a := 0x5A, pc := 0x0101, answers := [] }) = true := by decide

/-- INC (HL) on a device: the value read is what comes back incremented in the flags, and the RAM is not written. -/
theorem test_device_takes_write :
    steps (({ program 0x0100 [0x34] with h := 0xC0, answers := [(0xC000, .device 0xFF), (0xC000, .device 0)] }).poke 0xC000 0x11) 3
      (fun u => { u with f := 0xA0, pc := 0x0101, answers := [] }) = true := by decide

/-- LD (HL),B into a ROM: accepted, and nothing stored. -/
theorem test_rom_discards_write :
    steps ({ program 0x0100 [0x70] with
        b := 0x5A, h := 0xC0
        regions := [{ first := 0xC000, last := 0xC000, refusesRead := false, refusesWrite := false, discardsWrite := true }] }) 2
      (fun u => { u with pc := 0x0101 }) = true := by decide

/-- The opcode itself comes from the oracle, at the address where the RAM holds another. -/
theorem test_fetch_from_device :
    steps { program 0x0100 [0x76] with answers := [(0x0100, .device 0x04), (0x0100, .device 0x99)] } 1
      (fun u => { u with b := 1, pc := 0x0101, answers := [(0x0100, .device 0x99)] }) = true := by decide

/-- PUSH BC whose low byte's write is refused. -/
theorem test_refused_second_write :
    step { program 0x0100 [0xC5] with sp := 0xFFFE, answers := [(0xFFFC, .refuse)] } = .fault .memFault := rfl

/-! ### Witnesses: for every obligation with hypotheses, states and operands that meet them, at the ends of the ranges -/

/-- Memory answers nothing at the addresses from `first` to `last`. -/
def deaf (first last : Nat) : State :=
  { State.reset with
    regions := [{ first := first, last := last, refusesRead := true, refusesWrite := true, discardsWrite := false }] }

/-- Memory answers reads everywhere and refuses writes from `first` to `last`. -/
def readOnly (first last : Nat) : State :=
  { State.reset with
    regions := [{ first := first, last := last, refusesRead := false, refusesWrite := true, discardsWrite := false }] }

theorem witness_DecodeOfEncode : (Instr.ldBcNn 0xFFFF).wellFormed = true ∧ Instr.set7A.wellFormed = true := by decide

theorem witness_PrefixRunsCbSlot :
    let s := { program 0xFFFF [0xCB, 0xFF] with h := 0xFF, l := 0xFF }
    s.canModify s.hl = true ∧ s.haltedOrStopped = false ∧ s.canRead s.pc = true ∧
      s.canRead (s.pc + 1) = true ∧ s.readValue s.pc = 0xCB#8 ∧ s.readValue (s.pc + 1) = 0xFF#8 := by decide

/-- Its last clause: the second byte of a prefix at 0xFFFF is refused. -/
theorem witness_PrefixRunsCbSlot_refused :
    let s := { (deaf 0 0).poke 0xFFFF 0xCB with pc := 0xFFFF }
    s.haltedOrStopped = false ∧ s.canRead s.pc = true ∧ s.readValue s.pc = 0xCB#8 ∧ s.canRead (s.pc + 1) = false := by
  decide

/-- The refused operand fetch of ADD SP,e and of LD HL,SP+e. -/
theorem witness_SpPlusOffset :
    (let s := { (deaf 0 0).poke 0xFFFF 0xE8 with pc := 0xFFFF }
     s.haltedOrStopped = false ∧ s.canRead s.pc = true ∧ s.readValue s.pc = 0xE8#8 ∧ s.canRead (s.pc + 1) = false) ∧
    (let s := { (deaf 0 0).poke 0xFFFF 0xF8 with pc := 0xFFFF }
     s.haltedOrStopped = false ∧ s.canRead s.pc = true ∧ s.readValue s.pc = 0xF8#8 ∧ s.canRead (s.pc + 1) = false) := by
  decide

/-- A state with every flag set, some totals and two cells of memory. -/
def busy : State :=
  { (program 0xFFFF [0x3C]).poke 0x0000 0xFF with f := 0xF0, a := 0xFF, m := 3, t := 12, clkM := 10, clkT := 40 }

theorem witness_StepKeepsInvariant : busy.Inv ∧ ∃ t, step busy = .next t :=
  ⟨⟨by decide, by decide, by decide, by decide⟩, _, rfl⟩

theorem witness_HostOperationsKeepInvariant :
    busy.Inv ∧ (∃ t, busy.interruptEntry .v60 = .next t) ∧ Memory.wf [(0, 1#8), (65535, 255#8)] = true :=
  ⟨⟨by decide, by decide, by decide, by decide⟩, ⟨_, rfl⟩, by decide⟩

theorem witness_HeldCoreChangesNothing :
    ({ busy with stop := true }).haltedOrStopped = true ∧
    ({ busy with halt := true }).haltedOrStopped = true ∧ ({ busy with halt := true }).stop = false ∧
      ∃ t, ({ busy with halt := true }).interruptEntry .v40 = .next t :=
  ⟨by decide, by decide, by decide, _, rfl⟩

/-- The three lengths; the longest with its bytes across the top of memory. -/
theorem witness_StepRunsDecodedInstruction :
    let s := program 0xFFFE [0x31, 0xFE, 0xFF]
    s.haltedOrStopped = false ∧
      (decode [s.readValue s.pc, s.readValue (s.pc + 1), s.readValue (s.pc + 2)] == .instr (.ldSpNn 0xFFFE) []) = true ∧
      ∀ k : Nat, k < instrLength (s.readValue s.pc) → s.canRead (s.pc + BitVec.ofNat 16 k) = true := by
  refine ⟨by decide, by decide, fun k hk => ?_⟩
  have hk : k < 3 := hk
  interval_cases k <;> rfl

theorem witness_StepAccounting :
    ({ busy with r := 127 }).haltedOrStopped = false ∧ ∃ t, step { busy with r := 127 } = .next t :=
  ⟨by decide, _, rfl⟩

theorem witness_ConditionsInOrder :
    (let s := { deaf 0xFFFF 0xFFFF with pc := 0xFFFF }
     s.haltedOrStopped = false ∧ s.canRead s.pc = false) ∧
    (let s := { (deaf 0 0).poke 0xFFFF 0xCB with pc := 0xFFFF }
     s.haltedOrStopped = false ∧ s.canRead s.pc = true ∧ s.readValue s.pc = 0xCB#8 ∧ s.canRead (s.pc + 1) = false) ∧
    (let s := { (deaf 0 0).poke 0xFFFF 0xFD with pc := 0xFFFF }
     s.haltedOrStopped = false ∧ s.canRead s.pc = true ∧ s.readValue s.pc ∈ illegalPrimaryBytes) ∧
    (let s := { (deaf 0 0).poke 0xFFFF 0x06 with pc := 0xFFFF }
     s.haltedOrStopped = false ∧ s.canRead s.pc = true ∧ 2 ≤ instrLength (s.readValue s.pc) ∧
       s.canRead (s.pc + 1) = false) ∧
    (let s := { (deaf 0 0).poke 0xFFFE 0xC3 with pc := 0xFFFE }
     s.haltedOrStopped = false ∧ s.canRead s.pc = true ∧ instrLength (s.readValue s.pc) = 3 ∧
       s.canRead (s.pc + 2) = false) := by decide

theorem witness_FaultsOnlyFromMemory :
    busy.neverRefuses = true ∧ ({ busy with answers := [(0xFFFF, .device 0x3C), (0xFFFF, .ram)] }).neverRefuses = true ∧
      step { deaf 0xFFFF 0xFFFF with pc := 0xFFFF } = .fault .memFault ∧
      step { busy with answers := [(0xFFFF, .refuse)] } = .fault .memFault := ⟨by decide, by decide, rfl, rfl⟩

theorem witness_ReadAfterWrite :
    busy.canRead 0xFFFF = true ∧ (deaf 0xFFFF 0xFFFF).canRead 0xFFFF = false ∧
    (readOnly 0xFFFF 0xFFFF).canWrite 0xFFFF = false ∧ busy.canWrite 0xFFFF = true ∧ Memory.wf busy.mem = true ∧
    (let s := { busy with answers := [(0xFFFF, .ram)] }
     let t := s.written 0xFFFF 0
     s.canWrite 0xFFFF = true ∧ s.keepsWrite 0xFFFF = true ∧ t.nextAnswer 0xFFFF = .ram ∧ t.canRead 0xFFFF = true) ∧
    (let s := { busy with answers := [(0xFFFF, .device 0)] }
     s.canWrite 0xFFFF = true ∧ s.keepsWrite 0xFFFF = false) := by decide

theorem witness_CanonicalMemoriesEqual :
    let mem : List Host.Cell := [(0, 1#8), (65535, 255#8)]
    Memory.wf mem = true ∧ Memory.wf (Memory.write (Memory.write [] 65535 255#8) 0 1#8) = true ∧
      ∀ a, a < 65536 → Memory.read mem a = Memory.read mem a := ⟨by decide, by decide, fun _ _ => rfl⟩

theorem witness_WordIsTwoBytes :
    busy.canRead 0xFFFF = true ∧ busy.canRead (0xFFFF + 1) = true ∧
    (deaf 0 0).canRead 0 = false ∧ (deaf 0 0).canRead (0xFFFF + 1) = false ∧
    busy.canWrite 0xFFFF = true ∧ busy.canWrite (0xFFFF + 1) = true ∧
    (readOnly 0 0).canWrite 0 = false ∧ (readOnly 0 0).canWrite (0xFFFF + 1) = false ∧
    (let s := { busy with answers := [(0xFFFF, .device 7), (0, .refuse)] }
     s.canRead 0xFFFF = true ∧ s.canRead (0xFFFF + 1) = false) := by decide

theorem witness_FlagLayout : (0 < 8 ∧ 0 ≠ Flag.zero.bit) ∧ (7 < 8 ∧ 7 ≠ Flag.carry.bit) := by decide

/-- HL at the top of memory: the byte there answers, or is refused. -/
def atTop : State := { busy with h := 0xFF, l := 0xFF }
def refusedTop : State := { deaf 0xFFFF 0xFFFF with h := 0xFF, l := 0xFF, b := 0xFF, c := 0xFF, d := 0xFF, e := 0xFF }
def fixedTop : State := { readOnly 0xFFFF 0xFFFF with h := 0xFF, l := 0xFF, b := 0xFF, c := 0xFF, d := 0xFF, e := 0xFF }

theorem witness_AddAdc : atTop.canRead atTop.hl = true ∧ refusedTop.canRead refusedTop.hl = false := by decide

theorem witness_SubCp : atTop.canRead atTop.hl = true ∧ refusedTop.canRead refusedTop.hl = false := by decide

theorem witness_SbcBorrowsCarry :
    atTop.canRead atTop.hl = true ∧ atTop.flagC = true ∧ refusedTop.canRead refusedTop.hl = false := by decide

theorem witness_LogicOps :
    (∃ (code : Nat) (res : Byte → Byte), AluOp.and = .and ∧ code = 4 ∧ res = (atTop.a &&& ·)) ∧
    (∃ (code : Nat) (res : Byte → Byte), AluOp.xor = .xor ∧ code = 5 ∧ res = (atTop.a ^^^ ·)) ∧
    (∃ (code : Nat) (res : Byte → Byte), AluOp.or = .or ∧ code = 6 ∧ res = (atTop.a ||| ·)) ∧
    atTop.canRead atTop.hl = true ∧ refusedTop.canRead refusedTop.hl = false :=
  ⟨⟨4, _, rfl, rfl, rfl⟩, ⟨5, _, rfl, rfl, rfl⟩, ⟨6, _, rfl, rfl, rfl⟩, by decide, by decide⟩

theorem witness_IncDec8 :
    atTop.canModify atTop.hl = true ∧ refusedTop.canModify refusedTop.hl = false ∧
      fixedTop.canModify fixedTop.hl = false := by decide

/-- The pairs with their codes, for the statements that take both. -/
def rpCodes : List (Rp × Nat) := [(.bc, 0), (.de, 1), (.hl, 2), (.sp, 3)]
def rp2Codes : List (Rp2 × Nat) := [(.bc, 0), (.de, 1), (.hl, 2), (.af, 3)]

theorem witness_AddHl :
    ∀ x ∈ rpCodes, x.1 = .bc ∧ x.2 = 0 ∨ x.1 = .de ∧ x.2 = 1 ∨ x.1 = .hl ∧ x.2 = 2 ∨ x.1 = .sp ∧ x.2 = 3 := by decide

theorem witness_IncDec16 :
    ∀ x ∈ rpCodes, x.1 = .bc ∧ x.2 = 0 ∨ x.1 = .de ∧ x.2 = 1 ∨ x.1 = .hl ∧ x.2 = 2 ∨ x.1 = .sp ∧ x.2 = 3 := by decide

theorem witness_AccumulatorRotates :
    ∀ x ∈ [(Instr.rlca, ShiftOp.rlc, 0x07#8), (.rla, .rl, 0x17#8), (.rrca, .rrc, 0x0F#8), (.rra, .rr, 0x1F#8)],
      x.1 = .rlca ∧ x.2.1 = .rlc ∧ x.2.2 = 0x07 ∨ x.1 = .rla ∧ x.2.1 = .rl ∧ x.2.2 = 0x17 ∨
        x.1 = .rrca ∧ x.2.1 = .rrc ∧ x.2.2 = 0x0F ∨ x.1 = .rra ∧ x.2.1 = .rr ∧ x.2.2 = 0x1F := by decide

theorem witness_ShiftMemory :
    atTop.canModify atTop.hl = true ∧ refusedTop.canModify refusedTop.hl = false ∧
      fixedTop.canModify fixedTop.hl = false := by decide

theorem witness_BitTest : atTop.canRead atTop.hl = true ∧ refusedTop.canRead refusedTop.hl = false := by decide

theorem witness_ResSetRegister :
    ({ busy with cbResSet := .implemented }).cbResSet = .implemented ∧ busy.cbResSet = .illegal := by decide

theorem witness_ResSetMemory :
    (let s := { atTop with cbResSet := .implemented }
     s.cbResSet = .implemented ∧ s.canModify s.hl = true) ∧
    (let s := { refusedTop with cbResSet := .implemented }
     s.cbResSet = .implemented ∧ s.canModify s.hl = false) ∧
    (let s := { fixedTop with cbResSet := .implemented }
     s.cbResSet = .implemented ∧ s.canModify s.hl = false) ∧
    atTop.cbResSet = .illegal := by decide

theorem witness_LoadRegister : R8.a = R8.a ∧ R8.b = R8.b := by decide

theorem witness_LoadFromPair :
    atTop.canRead atTop.hl = true ∧ atTop.canRead atTop.bc = true ∧ atTop.canRead atTop.de = true ∧
      refusedTop.canRead refusedTop.hl = false ∧ refusedTop.canRead refusedTop.bc = false ∧
      refusedTop.canRead refusedTop.de = false := by decide

/-- The seven stores, the high-page ones at both ends of the page; a refused store. -/
theorem witness_StoreByte :
    (∃ (i : Instr) (bytes : List Byte) (a : Word) (v : Byte) (m : Nat),
      i = Instr.ldAtHlR .l ∧ bytes = [opcodeOf 1 6 R8.l.code] ∧ a = atTop.hl ∧ v = atTop.r8 .l ∧ m = 2) ∧
    (∃ (i : Instr) (bytes : List Byte) (a : Word) (v : Byte) (m : Nat),
      i = .ldAtHlN 0xFF ∧ bytes = [0x36, 0xFF] ∧ a = atTop.hl ∧ v = 0xFF ∧ m = 3) ∧
    (∃ (i : Instr) (bytes : List Byte) (a : Word) (v : Byte) (m : Nat),
      i = .ldAtBcA ∧ bytes = [0x02] ∧ a = atTop.bc ∧ v = atTop.a ∧ m = 2) ∧
    (∃ (i : Instr) (bytes : List Byte) (a : Word) (v : Byte) (m : Nat),
      i = .ldAtDeA ∧ bytes = [0x12] ∧ a = atTop.de ∧ v = atTop.a ∧ m = 2) ∧
    (∃ (i : Instr) (bytes : List Byte) (a : Word) (v : Byte) (m : Nat),
      i = .ldAtNnA 0xFFFF ∧ bytes = [0xEA, loByte 0xFFFF, hiByte 0xFFFF] ∧ a = 0xFFFF ∧ v = atTop.a ∧ m = 4) ∧
    (∃ (i : Instr) (bytes : List Byte) (a : Word) (v : Byte) (m : Nat),
      i = .ldhAtNA 0xFF ∧ bytes = [0xE0, 0xFF] ∧ a.toNat = 0xFF00 + (0xFF#8).toNat ∧ v = atTop.a ∧ m = 3) ∧
    (∃ (i : Instr) (bytes : List Byte) (a : Word) (v : Byte) (m : Nat),
      i = .ldAtCA ∧ bytes = [0xE2] ∧ a.toNat = 0xFF00 + atTop.c.toNat ∧ v = atTop.a ∧ m = 2) ∧
    atTop.canWrite 0xFFFF = true ∧ fixedTop.canWrite 0xFFFF = false :=
  ⟨⟨_, _, _, _, _, rfl, rfl, rfl, rfl, rfl⟩, ⟨_, _, _, _, _, rfl, rfl, rfl, rfl, rfl⟩,
   ⟨_, _, _, _, _, rfl, rfl, rfl, rfl, rfl⟩, ⟨_, _, _, _, _, rfl, rfl, rfl, rfl, rfl⟩,
   ⟨_, _, _, _, _, rfl, rfl, rfl, rfl, rfl⟩, ⟨_, _, 0xFFFF#16, _, _, rfl, rfl, rfl, rfl, rfl⟩,
   ⟨_, _, 0xFF00#16, _, _, rfl, rfl, rfl, rfl, rfl⟩, by decide, by decide⟩

theorem witness_LoadAbsolute :
    (∃ (i : Instr) (bytes : List Byte) (a : Word) (m : Nat),
      i = .ldAAtNn 0 ∧ bytes = [0xFA, loByte 0, hiByte 0] ∧ a = 0 ∧ m = 4) ∧
    (∃ (i : Instr) (bytes : List Byte) (a : Word) (m : Nat),
      i = .ldhAAtN 0xFF ∧ bytes = [0xF0, 0xFF] ∧ a.toNat = 0xFF00 + (0xFF#8).toNat ∧ m = 3) ∧
    (∃ (i : Instr) (bytes : List Byte) (a : Word) (m : Nat),
      i = .ldAAtC ∧ bytes = [0xF2] ∧ a.toNat = 0xFF00 + refusedTop.c.toNat ∧ m = 2) ∧
    atTop.canRead 0xFFFF = true ∧ refusedTop.canRead 0xFFFF = false :=
  ⟨⟨_, _, _, _, rfl, rfl, rfl, rfl⟩, ⟨_, _, 0xFFFF#16, _, rfl, rfl, rfl, rfl⟩,
   ⟨_, _, 0xFFFF#16, _, rfl, rfl, rfl, rfl⟩, by decide, by decide⟩

theorem witness_LoadStepHl :
    atTop.canWrite atTop.hl = true ∧ fixedTop.canWrite fixedTop.hl = false ∧ atTop.canRead atTop.hl = true ∧
      refusedTop.canRead refusedTop.hl = false := by decide

theorem witness_StackPointerLoads :
    busy.canWrite 0xFFFF = true ∧ busy.canWrite (0xFFFF + 1) = true ∧ (readOnly 0 0).canWrite 0 = false ∧
      (readOnly 0 0).canWrite (0xFFFF + 1) = false := by decide

/-- The stack pointer at the ends of the address space: the stack answers, or one of its two bytes is refused. -/
theorem witness_PushStoresPair :
    ({ busy with sp := 0 }).canPush = true ∧ ({ busy with sp := 1 }).canPush = true ∧
      ({ readOnly 0xFFFF 0xFFFF with sp := 0 }).canPush = false ∧
      ({ readOnly 0xFFFF 0xFFFF with sp := 1 }).canPush = false ∧
      ∀ x ∈ rp2Codes, x.1 = .bc ∧ x.2 = 0 ∨ x.1 = .de ∧ x.2 = 1 ∨ x.1 = .hl ∧ x.2 = 2 ∨ x.1 = .af ∧ x.2 = 3 := by decide

theorem witness_PopLoadsPair :
    ({ busy with sp := 0xFFFF }).canPop = true ∧ ({ deaf 0xFFFF 0xFFFF with sp := 0xFFFF }).canPop = false ∧
      ({ deaf 0xFFFF 0xFFFF with sp := 0xFFFE }).canPop = false ∧
      ∀ x ∈ rp2Codes, x.1 = .bc ∧ x.2 = 0 ∨ x.1 = .de ∧ x.2 = 1 ∨ x.1 = .hl ∧ x.2 = 2 ∨ x.1 = .af ∧ x.2 = 3 := by decide

theorem witness_Jumps : busy.cond .c = true ∧ busy.cond .nz = false ∧ State.reset.cond .nz = true := by decide

theorem witness_RelativeJumps :
    busy.cond .z = true ∧ busy.cond .nc = false ∧ ({ busy with b := 0 }).b ≠ 1#8 ∧ ({ busy with b := 1 }).b = 1#8 := by
  decide

theorem witness_Calls :
    (let s := { busy with sp := 1 }
     s.canPush = true ∧ s.cond .z = true ∧ s.cond .nz = false) ∧
    (let s := { readOnly 0xFFFF 0xFFFF with sp := 0 }
     s.canPush = false ∧ s.cond .nz = true) := by decide

theorem witness_Returns :
    (let s := { busy with sp := 0xFFFF }
     s.canPop = true ∧ s.cond .z = true ∧ s.cond .nz = false) ∧
    (let s := { deaf 0 0 with sp := 0xFFFF }
     s.canPop = false ∧ s.cond .nz = true) := by decide

theorem witness_Restarts :
    ({ busy with sp := 1 }).canPush = true ∧ ({ readOnly 0 0 with sp := 1 }).canPush = false := by decide

theorem witness_IllegalOpcodeTaken :
    let s := program 0xFFFF [0xFD]
    (Instr.illegalFD, 0xFD#8) ∈ [(Instr.illegalD3, 0xD3#8), (.illegalDB, 0xDB#8), (.illegalDD, 0xDD#8),
      (.illegalE3, 0xE3#8), (.illegalE4, 0xE4#8), (.illegalEB, 0xEB#8), (.illegalEC, 0xEC#8), (.illegalED, 0xED#8),
      (.illegalF4, 0xF4#8), (.illegalFC, 0xFC#8), (.illegalFD, 0xFD#8)] ∧ s.haltedOrStopped = false ∧
      s.canRead s.pc = true ∧ s.readValue s.pc = 0xFD#8 := by decide

/-- Its CB clause, with the first illegal second byte at address 0. -/
theorem witness_IllegalOpcodeTaken_cb :
    let s := program 0xFFFF [0xCB, 0x80]
    s.haltedOrStopped = false ∧ s.canRead s.pc = true ∧ s.canRead (s.pc + 1) = true ∧ s.readValue s.pc = 0xCB#8 ∧
      s.readValue (s.pc + 1) = 0x80#8 ∧ 0x80 ≤ (0x80#8 : Byte).toNat ∧ s.cbResSet = .illegal := by decide

/-- The three cases: an illegal primary byte, an illegal CB byte, neither (with the last legal CB byte). -/
theorem witness_IllegalOpcodeCauses :
    (∃ t, (program 0xFFFF [0xD3]).haltedOrStopped = false ∧ step (program 0xFFFF [0xD3]) = .next t ∧
      (program 0xFFFF [0xD3]).readValue 0xFFFF ∈ illegalPrimaryBytes) ∧
    (∃ t, step (program 0xFFFF [0xCB, 0x80]) = .next t ∧ (program 0xFFFF [0xCB, 0x80]).readValue 0xFFFF = 0xCB#8 ∧
      0x80 ≤ ((program 0xFFFF [0xCB, 0x80]).readValue 0).toNat ∧ (program 0xFFFF [0xCB, 0x80]).cbResSet = .illegal) ∧
    (∃ t, step (program 0xFFFF [0xCB, 0x7F]) = .next t ∧ (program 0xFFFF [0xCB, 0x7F]).readValue 0xFFFF ∉ illegalPrimaryBytes ∧
      ¬0x80 ≤ ((program 0xFFFF [0xCB, 0x7F]).readValue 0).toNat) :=
  ⟨⟨_, by decide, rfl, by decide⟩, ⟨_, rfl, by decide, by decide, by decide⟩, ⟨_, rfl, by decide, by decide⟩⟩

theorem witness_StackRoundTrips :
    let s := { busy with sp := 1 }
    s.answers = [] ∧ s.canPush = true ∧ s.keepsWrite (s.sp - 1) = true ∧ s.keepsWrite (s.sp - 2) = true ∧
      s.canRead (s.sp - 1) = true ∧ s.canRead (s.sp - 2) = true ∧ s.f &&& 0x0F#8 = 0#8 := by decide

theorem witness_InterruptEntryEffect :
    (∀ x ∈ [(InterruptVector.v40, 0x40), (.v48, 0x48), (.v50, 0x50), (.v58, 0x58), (.v60, 0x60)],
      x.1 = .v40 ∧ x.2 = 0x40 ∨ x.1 = .v48 ∧ x.2 = 0x48 ∨ x.1 = .v50 ∧ x.2 = 0x50 ∨ x.1 = .v58 ∧ x.2 = 0x58 ∨
        x.1 = .v60 ∧ x.2 = 0x60) ∧
    ({ busy with stop := true }).stop = true ∧
      ({ busy with sp := 1 }).stop = false ∧ ({ busy with sp := 1 }).canPush = true ∧
      ({ readOnly 0 0 with sp := 1 }).stop = false ∧ ({ readOnly 0 0 with sp := 1 }).canPush = false :=
  ⟨by decide, by decide, by decide, by decide, by decide, by decide⟩

theorem witness_ResumeAndStop :
    let s := program 0xFFFF [0xFD]
    s.haltedOrStopped = false ∧ s.canRead s.pc = true ∧ s.readValue s.pc ∈ illegalPrimaryBytes := by decide

theorem witness_ResumeAndStop_cb :
    let s := program 0xFFFF [0xCB, 0xFF]
    s.haltedOrStopped = false ∧ s.canRead s.pc = true ∧ s.canRead (s.pc + 1) = true ∧ s.readValue s.pc = 0xCB#8 ∧
      0x80 ≤ (s.readValue (s.pc + 1)).toNat ∧ s.cbResSet = .illegal := by decide

/-- A storing form with its address, the byte beside it, and a form that stores nothing. -/
theorem witness_MemoryFrame :
    (∃ t, exec .ldAtHlA atTop = .next t) ∧ (0 : Word) ∉ storeAddresses .ldAtHlA atTop ∧
      (∃ t, exec .cpAtHl atTop = .next t) ∧ storeAddresses .cpAtHl atTop = [] :=
  ⟨⟨_, rfl⟩, by decide, ⟨_, rfl⟩, by decide⟩

theorem witness_ControlBitWriters :
    (∃ t, exec .reti busy = .next t) ∧ (∃ t, exec .halt busy = .next t) ∧ (∃ t, exec .illegalD3 busy = .next t) ∧
      isIllegal .illegalD3 busy.cbResSet = true := ⟨⟨_, rfl⟩, ⟨_, rfl⟩, ⟨_, rfl⟩, by decide⟩

theorem witness_FlagFrame : busy.f &&& 0x0F#8 = 0#8 ∧ ∃ t, exec .incA busy = .next t := ⟨by decide, _, rfl⟩

theorem witness_TakenCostsMore :
    (∃ t₁ t₂, busy.cond .c = true ∧ State.reset.cond .c = false ∧
      exec (Instr.callIf .c 0xFFFF) busy = .next t₁ ∧ exec (Instr.callIf .c 0xFFFF) State.reset = .next t₂) ∧
    (∃ t₁ t₂, ({ busy with b := 0 }).b ≠ 1#8 ∧ ({ busy with b := 1 }).b = 1#8 ∧
      exec (.djnzE 0x80) { busy with b := 0 } = .next t₁ ∧ exec (.djnzE 0x80) { busy with b := 1 } = .next t₂) :=
  ⟨⟨_, _, by decide, by decide, rfl, rfl⟩, ⟨_, _, by decide, by decide, rfl, rfl⟩⟩

end Sys2Proof.Machine
end

section
/-! The state after reset meets the invariant of the core. -/

namespace Sys2Proof.Machine

/-- Of the invariant only the clause about F speaks of INIT (R4); the counters are zero (R28) and MEM is empty (log 2). -/
theorem State.resetWith_inv (init : Init) : (State.resetWith init).Inv where
  lowNibble := Init.f_lowNibble init
  states := rfl
  totals := rfl
  canonical := rfl

/-- Settles O6: `State.reset` is the reset state of one INIT, and every INIT's reset state meets the invariant. -/
theorem resetMeetsInvariant : Obligations.ResetMeetsInvariant :=
  ⟨State.resetWith_inv Config.init, fun init => ⟨Init.f_lowNibble init, State.resetWith_inv init⟩⟩

end Sys2Proof.Machine
end

section
/-! The counters M, T, CLK_M, CLK_T and R (spec/10_state.md R18, R22, R23): no meaning reads one. M and T come from the
instruction's own cost (R87); the totals and R are written by the step around `exec`. -/

namespace Sys2Proof.Machine

/-- Values of the five counters. -/
structure Counters where
  m : Nat
  t : Nat
  clkM : Nat
  clkT : Nat
  r : BitVec 7

/-- The state with other counters. -/
def State.recount (s : State) (c : Counters) : State :=
  { s with m := c.m, t := c.t, clkM := c.clkM, clkT := c.clkT, r := c.r }

/-- The state with the counters that no instruction writes, the totals and R, replaced. -/
def State.retotal (s : State) (c : Counters) : State := { s with clkM := c.clkM, clkT := c.clkT, r := c.r }

/-- The outcome with the totals and R of its next state replaced. -/
def retotaled (c : Counters) : Res → Res
  | .next u => .next (u.retotal c)
  | .fault x => .fault x
  | .refused x => .refused x

theorem retotaled_ite (c : Counters) (p : Bool) (u : State) :
    retotaled c (if p then .next u else .fault .memFault) =
      if p then .next (u.retotal c) else .fault .memFault := by
  cases p <;> rfl

section
variable {s : State} {c : Counters}

theorem withByteAt_recount {a : Word} {k k' : Byte → State → State}
    (h : ∀ v u, k' v (u.recount c) = (k v u).retotal c) :
    (s.recount c).withByteAt a k' = retotaled c (s.withByteAt a k) := by
  rw [State.withByteAt_eq, State.withByteAt_eq, retotaled_ite, ← h]; rfl

theorem storeThen_recount {a : Word} {v : Byte} {k k' : State → State}
    (h : ∀ u, k' (u.recount c) = (k u).retotal c) :
    (s.recount c).storeThen a v k' = retotaled c (s.storeThen a v k) := by
  rw [State.storeThen_eq, State.storeThen_eq, retotaled_ite, ← h]; rfl

theorem modifyByteAt_recount {a : Word} {g : Byte → Byte} {k k' : Byte → State → State}
    (h : ∀ v u, k' v (u.recount c) = (k v u).retotal c) :
    (s.recount c).modifyByteAt a g k' = retotaled c (s.modifyByteAt a g k) := by
  rw [State.modifyByteAt_eq, State.modifyByteAt_eq, retotaled_ite, ← h]; rfl

theorem callTo_recount (target : Word) (row : CostRow) :
    callTo target row (s.recount c) = retotaled c (callTo target row s) := by
  rw [callTo_eq, callTo_eq, retotaled_ite]; rfl

theorem returnWith_recount {row : CostRow} {k : State → State}
    (h : ∀ u, (k (u.recount c)).charge row = ((k u).charge row).retotal c) :
    returnWith row k (s.recount c) = retotaled c (returnWith row k s) := by
  rw [returnWith_eq, returnWith_eq, retotaled_ite, ← h]; rfl

theorem pushPair_recount (p : Rp2) : pushPair p (s.recount c) = retotaled c (pushPair p s) := by
  rw [pushPair_eq, pushPair_eq, retotaled_ite]; cases p <;> rfl

theorem popPair_recount (p : Rp2) : popPair p (s.recount c) = retotaled c (popPair p s) := by
  rw [popPair_eq, popPair_eq, retotaled_ite]; cases p <;> rfl

theorem ldAbsSp_recount (nn : Word) : ldAbsSp nn (s.recount c) = retotaled c (ldAbsSp nn s) := by
  rw [ldAbsSp_eq, ldAbsSp_eq, retotaled_ite]; rfl

theorem ifImplemented_recount (op2 : Byte) {x x' : Res} (h : x' = retotaled c x) :
    ifImplemented op2 (s.recount c) x' = retotaled c (ifImplemented op2 s x) := by
  cases hs : s.cbResSet with
  | illegal => rw [ifImplemented_illegal hs, ifImplemented_illegal (s := s.recount c) hs]; rfl
  | implemented => rw [ifImplemented_implemented hs, ifImplemented_implemented (s := s.recount c) hs, h]

/-- Two branches told apart by what is not a counter. -/
theorem ite_recount {p : Prop} [Decidable p] {x x' y y' : Res} (hx : x' = retotaled c x) (hy : y' = retotaled c y) :
    (if p then x' else y') = retotaled c (if p then x else y) := by
  rw [hx, hy]; exact (apply_ite _ _ _ _).symm

theorem shiftReg_recount (op : ShiftOp) (x : R8) :
    shiftReg op x (s.recount c) = retotaled c (shiftReg op x s) := by cases x <;> rfl

theorem shiftAtHl_recount (op : ShiftOp) : shiftAtHl op (s.recount c) = retotaled c (shiftAtHl op s) :=
  modifyByteAt_recount fun _ _ => rfl

theorem bitReg_recount (b : Fin 8) (x : R8) : bitReg b x (s.recount c) = retotaled c (bitReg b x s) := by
  cases x <;> rfl

theorem bitAtHl_recount (b : Fin 8) : bitAtHl b (s.recount c) = retotaled c (bitAtHl b s) :=
  withByteAt_recount fun _ _ => rfl

theorem resReg_recount (b : Fin 8) (x : R8) : resReg b x (s.recount c) = retotaled c (resReg b x s) :=
  ifImplemented_recount _ (by cases x <;> rfl)

theorem resAtHl_recount (b : Fin 8) : resAtHl b (s.recount c) = retotaled c (resAtHl b s) :=
  ifImplemented_recount _ (modifyByteAt_recount fun _ _ => rfl)

theorem setReg_recount (b : Fin 8) (x : R8) : setReg b x (s.recount c) = retotaled c (setReg b x s) :=
  ifImplemented_recount _ (by cases x <;> rfl)

theorem setAtHl_recount (b : Fin 8) : setAtHl b (s.recount c) = retotaled c (setAtHl b s) :=
  ifImplemented_recount _ (modifyByteAt_recount fun _ _ => rfl)

theorem ldAAt_recount (a : Word) (row : CostRow) : ldAAt a row (s.recount c) = retotaled c (ldAAt a row s) :=
  withByteAt_recount fun _ _ => rfl

theorem ldAAtHlStep_recount (step : Word) : ldAAtHlStep step (s.recount c) = retotaled c (ldAAtHlStep step s) :=
  withByteAt_recount fun _ _ => rfl

theorem incMem_recount : incMem (s.recount c) = retotaled c (incMem s) := modifyByteAt_recount fun _ _ => rfl

theorem decMem_recount : decMem (s.recount c) = retotaled c (decMem s) := modifyByteAt_recount fun _ _ => rfl

theorem cbDispatch_recount (op2 : Byte) : cbDispatch op2 (s.recount c) = retotaled c (cbDispatch op2 s) := by
  unfold cbDispatch
  generalize operandOfCode (fieldZ op2) = o
  generalize fieldX op2 = x
  rcases x with _ | _ | _ | x <;> cases o
  · exact shiftReg_recount _ _
  · exact shiftAtHl_recount _
  · exact bitReg_recount _ _
  · exact bitAtHl_recount _
  · exact resReg_recount _ _
  · exact resAtHl_recount _
  · exact setReg_recount _ _
  · exact setAtHl_recount _

end

/-- What an instruction answers from a state with other counters. -/
theorem exec_recount (i : Instr) (s : State) (c : Counters) : exec i (s.recount c) = retotaled c (exec i s) := by
  induction i using Instr.byShape with
  | nop | rlca | rrca | rla | rra | daa | cpl | scf | ccf | halt | di | ei | jpHl | ldSpHl
  | jrE _ | jpNn _ | addSpE _ | ldHlSpE _
  | illegalD3 | illegalDB | illegalDD | illegalE3 | illegalE4 | illegalEB | illegalEC | illegalED | illegalF4
  | illegalFC | illegalFD => rfl
  | ldRpNn p nn => simp only [exec_ldRpNn]; cases p <;> rfl
  | ldRN dst n => simp only [exec_ldRN]; cases dst <;> rfl
  | ldRR dst src => simp only [exec_ldRR]; cases dst <;> rfl
  | aluN op n => simp only [exec_aluN]; cases op <;> rfl
  | aluR op r => simp only [exec_aluR]; cases op <;> rfl
  | incR r => simp only [exec_incR]; cases r <;> rfl
  | decR r => simp only [exec_decR]; cases r <;> rfl
  | incRp p => simp only [exec_incRp]; cases p <;> rfl
  | decRp p => simp only [exec_decRp]; cases p <;> rfl
  | addHlRp p => simp only [exec_addHlRp]; cases p <;> rfl
  | djnzE e => exact ite_recount rfl rfl
  | jrIf cc e => simp only [exec_jrIf]; cases cc <;> exact ite_recount rfl rfl
  | jpIf cc nn => simp only [exec_jpIf]; cases cc <;> exact ite_recount rfl rfl
  | callIf cc nn => simp only [exec_callIf]; cases cc <;> exact ite_recount (callTo_recount _ _) rfl
  | retIf cc => simp only [exec_retIf]; cases cc <;> exact ite_recount (returnWith_recount fun _ => rfl) rfl
  | callNn nn => exact callTo_recount _ _
  | rst y => simp only [exec_rst]; exact callTo_recount _ _
  | ret => exact returnWith_recount fun _ => rfl
  | reti => exact returnWith_recount (k := fun s' => { s' with ime := true }) fun _ => rfl
  | push p => simp only [exec_push]; exact pushPair_recount p
  | pop p => simp only [exec_pop]; exact popPair_recount p
  | ldRAtHl dst => simp only [exec_ldRAtHl]; exact withByteAt_recount fun _ _ => by cases dst <;> rfl
  | aluAtHl op => simp only [exec_aluAtHl]; exact withByteAt_recount fun _ _ => by cases op <;> rfl
  | ldAAtBc | ldAAtDe | ldAAtC | ldhAAtN _ | ldAAtNn _ => exact ldAAt_recount _ _
  | ldAAtHlInc | ldAAtHlDec => exact ldAAtHlStep_recount _
  | ldAtBcA | ldAtDeA | ldAtCA | ldhAtNA _ | ldAtNnA _ | ldAtHlN _ | ldAtHlIncA | ldAtHlDecA =>
    exact storeThen_recount fun _ => rfl
  | ldAtHlR src => simp only [exec_ldAtHlR]; cases src <;> exact storeThen_recount fun _ => rfl
  | ldAtNnSp nn => exact ldAbsSp_recount nn
  | incAtHl => exact incMem_recount
  | decAtHl => exact decMem_recount
  | prefixCb opcode2 => exact cbDispatch_recount opcode2
  | shiftR op r => simp only [exec_shiftR]; exact shiftReg_recount op r
  | shiftAtHl op => simp only [exec_shiftAtHl]; exact shiftAtHl_recount op
  | bitR b r => simp only [exec_bitR]; exact bitReg_recount b r
  | bitAtHl b => simp only [exec_bitAtHl]; exact bitAtHl_recount b
  | resR b r => simp only [exec_resR]; exact resReg_recount b r
  | resAtHl b => simp only [exec_resAtHl]; exact resAtHl_recount b
  | setR b r => simp only [exec_setR]; exact setReg_recount b r
  | setAtHl b => simp only [exec_setAtHl]; exact setAtHl_recount b

/-- Settles O59: every meaning reads and branches on what other counters leave as it was, and ends in its own cost. -/
theorem countersNeverRead : Obligations.CountersNeverRead := by
  intro i s m t clkM clkT r
  refine (exec_recount i s ⟨m, t, clkM, clkT, r⟩).trans ?_
  cases exec i s <;> rfl

/-- An instruction that never reads the totals and R, from its own counters as from any others, keeps them. -/
theorem exec_totals {i : Instr} {s t : State} (h : exec i s = .next t) :
    t.clkM = s.clkM ∧ t.clkT = s.clkT ∧ t.r = s.r := by
  have hc := exec_recount i s ⟨s.m, s.t, s.clkM, s.clkT, s.r⟩
  rw [show s.recount ⟨s.m, s.t, s.clkM, s.clkT, s.r⟩ = s from rfl, h] at hc
  injection hc with ht
  rw [ht]
  exact ⟨rfl, rfl, rfl⟩

end Sys2Proof.Machine
end

section
/-! What every instruction leaves of the control bits, of F and of the canonical form, and that its cost is one of the
table CYCLES: one theorem over all instructions, from which the claims about them are read off. -/

namespace Sys2Proof.Machine

/-! ### Flags -/

theorem getLsbD_of_lowNibble {f : Byte} (h : f &&& 0x0F#8 = 0#8) {i : Nat} (hi : i < 4) : f.getLsbD i = false := by
  have hbit := congrArg (BitVec.getLsbD · i) h
  interval_cases i <;> simpa using hbit

/-- F's low nibble, if zero, stays zero (R15), and then the bits of F outside a mask are kept (R31). -/
def FlagsKept (mask : Byte) (s t : State) : Prop :=
  s.f &&& 0x0F#8 = 0#8 → t.f &&& 0x0F#8 = 0#8 ∧ (t.f ^^^ s.f) &&& ~~~mask = 0#8

theorem FlagsKept.of_eq {mask : Byte} {s t : State} (h : t.f = s.f) : FlagsKept mask s t := by
  intro hs; rw [h, BitVec.xor_self, BitVec.zero_and]; exact ⟨hs, rfl⟩

/-- The low nibble stays zero and each flag outside the mask is as before. -/
theorem FlagsKept.of_flags {mask : Byte} {s t : State} (low : t.f &&& 0x0F#8 = 0#8)
    (hz : mask.getLsbD 7 = true ∨ t.flagZ = s.flagZ) (hn : mask.getLsbD 6 = true ∨ t.flagN = s.flagN)
    (hh : mask.getLsbD 5 = true ∨ t.flagH = s.flagH) (hc : mask.getLsbD 4 = true ∨ t.flagC = s.flagC) :
    FlagsKept mask s t := by
  intro hs
  have agree : ∀ i < 8, mask.getLsbD i = true ∨ t.f.getLsbD i = s.f.getLsbD i := by
    intro i hi
    by_cases h4 : i < 4
    · exact .inr ((getLsbD_of_lowNibble low h4).trans (getLsbD_of_lowNibble hs h4).symm)
    · interval_cases i
      · exact hc
      · exact hh
      · exact hn
      · exact hz
  refine ⟨low, BitVec.eq_of_getLsbD_eq fun i hi => ?_⟩
  rw [BitVec.getLsbD_and, BitVec.getLsbD_not, BitVec.getLsbD_xor]
  rcases agree i hi with h | h <;> rw [h] <;> simp

/-- The flags read off a flag byte. -/
theorem State.flags_of_flagByte {t : State} {z n h c : Bool} (ht : t.f = flagByte z n h c) :
    t.flagZ = z ∧ t.flagN = n ∧ t.flagH = h ∧ t.flagC = c := by
  unfold State.flagZ State.flagN State.flagH State.flagC State.getFlag
  rw [ht]
  exact ⟨flagByte_zero .., flagByte_subtract .., flagByte_halfCarry .., flagByte_carry ..⟩

/-- SetFlags keeps each flag it writes back as it was. -/
theorem FlagsKept.of_flagByte {mask : Byte} {s t : State} {z n h c : Bool} (ht : t.f = flagByte z n h c)
    (hz : mask.getLsbD 7 = true ∨ z = s.flagZ) (hn : mask.getLsbD 6 = true ∨ n = s.flagN)
    (hh : mask.getLsbD 5 = true ∨ h = s.flagH) (hc : mask.getLsbD 4 = true ∨ c = s.flagC) : FlagsKept mask s t := by
  obtain ⟨ez, en, eh, ec⟩ := State.flags_of_flagByte ht
  exact .of_flags (by rw [ht]; exact flagByte_lowNibble ..) (by rwa [ez]) (by rwa [en]) (by rwa [eh]) (by rwa [ec])

/-- An instruction that may write all four flags need only keep the low nibble zero. -/
theorem FlagsKept.of_lowNibble {s t : State} (low : t.f &&& 0x0F#8 = 0#8) : FlagsKept 0xF0#8 s t :=
  .of_flags low (.inl rfl) (.inl rfl) (.inl rfl) (.inl rfl)

/-! ### What an instruction may write -/

/-- What the tables of spec/10_state.md let an instruction write: bits of F (R31), IME (R19), `halt` (R20), `stop`
(R21). -/
structure Writes where
  mask : Byte
  ime : Option Bool
  halt : Bool
  stop : Bool

/-- No control bit, and of F the bits of a mask. -/
def Writes.flags (mask : Byte) : Writes := { mask := mask, ime := none, halt := false, stop := false }

/-- The row of RES and SET under a setting of CB_RES_SET. -/
def Writes.resSet (setting : CbResSet) : Writes := { Writes.flags 0 with stop := setting == .illegal }

/-- The row of an instruction, under a setting of CB_RES_SET. -/
def writes (i : Instr) (setting : CbResSet) : Writes where
  mask := flagMask i
  ime := if i = .di then some false else if i = .ei ∨ i = .reti then some true else none
  halt := decide (i = .halt)
  stop := isIllegal i setting

theorem writes_ime (i : Instr) (x : CbResSet) :
    (writes i x).ime = if i = .di then some false else if i = .ei ∨ i = .reti then some true else none := rfl

theorem writes_ldRpNn (p : Rp) (nn : Word) (x : CbResSet) : writes (Instr.ldRpNn p nn) x = .flags 0 := by
  cases p <;> rfl

theorem writes_ldRN (dst : R8) (n : Byte) (x : CbResSet) : writes (Instr.ldRN dst n) x = .flags 0 := by
  cases dst <;> rfl

theorem writes_ldRR (dst src : R8) (x : CbResSet) : writes (Instr.ldRR dst src) x = .flags 0 := by
  cases dst <;> cases src <;> rfl

theorem writes_ldRAtHl (dst : R8) (x : CbResSet) : writes (Instr.ldRAtHl dst) x = .flags 0 := by cases dst <;> rfl

theorem writes_ldAtHlR (src : R8) (x : CbResSet) : writes (Instr.ldAtHlR src) x = .flags 0 := by cases src <;> rfl

theorem writes_jrIf (cc : Cond) (e : Byte) (x : CbResSet) : writes (Instr.jrIf cc e) x = .flags 0 := by
  cases cc <;> rfl

theorem writes_jpIf (cc : Cond) (nn : Word) (x : CbResSet) : writes (Instr.jpIf cc nn) x = .flags 0 := by
  cases cc <;> rfl

theorem writes_callIf (cc : Cond) (nn : Word) (x : CbResSet) : writes (Instr.callIf cc nn) x = .flags 0 := by
  cases cc <;> rfl

theorem writes_retIf (cc : Cond) (x : CbResSet) : writes (Instr.retIf cc) x = .flags 0 := by cases cc <;> rfl

theorem writes_rst (y : Fin 8) (x : CbResSet) : writes (Instr.rst y) x = .flags 0 := by fin_cases y <;> rfl

theorem writes_push (p : Rp2) (x : CbResSet) : writes (Instr.push p) x = .flags 0 := by cases p <;> rfl

theorem writes_pop (p : Rp2) (x : CbResSet) :
    writes (Instr.pop p) x = .flags (if p = .af then 0xF0 else 0) := by cases p <;> rfl

theorem writes_aluN (op : AluOp) (n : Byte) (x : CbResSet) : writes (Instr.aluN op n) x = .flags 0xF0 := by
  cases op <;> rfl

theorem writes_aluR (op : AluOp) (r : R8) (x : CbResSet) : writes (Instr.aluR op r) x = .flags 0xF0 := by
  cases op <;> cases r <;> rfl

theorem writes_aluAtHl (op : AluOp) (x : CbResSet) : writes (Instr.aluAtHl op) x = .flags 0xF0 := by cases op <;> rfl

theorem writes_incR (r : R8) (x : CbResSet) : writes (Instr.incR r) x = .flags 0xE0 := by cases r <;> rfl

theorem writes_decR (r : R8) (x : CbResSet) : writes (Instr.decR r) x = .flags 0xE0 := by cases r <;> rfl

theorem writes_incRp (p : Rp) (x : CbResSet) : writes (Instr.incRp p) x = .flags 0 := by cases p <;> rfl

theorem writes_decRp (p : Rp) (x : CbResSet) : writes (Instr.decRp p) x = .flags 0 := by cases p <;> rfl

theorem writes_addHlRp (p : Rp) (x : CbResSet) : writes (Instr.addHlRp p) x = .flags 0x10 := by cases p <;> rfl

theorem writes_shiftR (op : ShiftOp) (r : R8) (x : CbResSet) : writes (Instr.shiftR op r) x = .flags 0xF0 := by
  cases op <;> cases r <;> rfl

theorem writes_shiftAtHl (op : ShiftOp) (x : CbResSet) : writes (Instr.shiftAtHl op) x = .flags 0xF0 := by
  cases op <;> rfl

theorem writes_bitR (b : Fin 8) (r : R8) (x : CbResSet) : writes (Instr.bitR b r) x = .flags 0xE0 := by
  fin_cases b <;> cases r <;> rfl

theorem writes_bitAtHl (b : Fin 8) (x : CbResSet) : writes (Instr.bitAtHl b) x = .flags 0xE0 := by
  fin_cases b <;> rfl

theorem writes_resR (b : Fin 8) (r : R8) (x : CbResSet) : writes (Instr.resR b r) x = .resSet x := by
  fin_cases b <;> cases r <;> rfl

theorem writes_resAtHl (b : Fin 8) (x : CbResSet) : writes (Instr.resAtHl b) x = .resSet x := by fin_cases b <;> rfl

theorem writes_setR (b : Fin 8) (r : R8) (x : CbResSet) : writes (Instr.setR b r) x = .resSet x := by
  fin_cases b <;> cases r <;> rfl

theorem writes_setAtHl (b : Fin 8) (x : CbResSet) : writes (Instr.setAtHl b) x = .resSet x := by fin_cases b <;> rfl

/-! ### What an instruction does with them -/

/-- An outcome whose next state, if there is one, has the property. -/
def EndsIn (p : State → Prop) (x : Res) : Prop := ∀ t, x = .next t → p t

section
variable {p : State → Prop} {s : State}

theorem endsIn_next {u : State} (h : p u) : EndsIn p (.next u) := by rintro t ⟨⟩; exact h

theorem endsIn_ite {c : Prop} [Decidable c] {x y : Res} (hx : EndsIn p x) (hy : EndsIn p y) :
    EndsIn p (if c then x else y) := by split <;> assumption

theorem endsIn_orFault {c : Prop} [Decidable c] {u : State} (h : p u) :
    EndsIn p (if c then .next u else .fault .memFault) := endsIn_ite (endsIn_next h) (by nofun)

theorem endsIn_withByteAt {a : Word} {k : Byte → State → State} (h : p (k (s.readValue a) (s.accessed [a]))) :
    EndsIn p (s.withByteAt a k) := by
  rw [State.withByteAt_eq]; exact endsIn_orFault h

theorem endsIn_storeThen {a : Word} {v : Byte} {k : State → State} (h : p (k (s.written a v))) :
    EndsIn p (s.storeThen a v k) := by
  rw [State.storeThen_eq]; exact endsIn_orFault h

theorem endsIn_modifyByteAt {a : Word} {g : Byte → Byte} {k : Byte → State → State}
    (h : p (k (s.readValue a) ((s.accessed [a]).written a (g (s.readValue a))))) :
    EndsIn p (s.modifyByteAt a g k) := by
  rw [State.modifyByteAt_eq]; exact endsIn_orFault h

end

/-- What a next state has of what was there before: F, IME, `halt` and `stop` but for what may be written, RAM in
canonical form, and a cost in T-states that is four times that in M-cycles. -/
structure Effect (w : Writes) (s t : State) : Prop where
  flags : FlagsKept w.mask s t
  ime : t.ime = w.ime.getD s.ime
  halt : t.halt = (s.halt || w.halt)
  stop : t.stop = (s.stop || w.stop)
  states : t.t = 4 * t.m
  canonical : Memory.wf s.mem = true → Memory.wf t.mem = true

/-- A meaning that writes no control bit and ends in its cost. -/
theorem Effect.charge {mask : Byte} {s u : State} {row : CostRow} (flags : FlagsKept mask s u)
    (ime : u.ime = s.ime := by simp) (halt : u.halt = s.halt := by simp) (stop : u.stop = s.stop := by simp)
    (canonical : Memory.wf s.mem = true → Memory.wf u.mem = true := by
      simp +contextual [State.written_wf, pushed_wf]) :
    Effect (.flags mask) s (u.charge row) where
  flags := flags
  ime := ime
  halt := by simp [halt, Writes.flags]
  stop := by simp [stop, Writes.flags]
  states := rfl
  canonical := canonical

/-- The same for a meaning that leaves F. -/
theorem Effect.charge_of_f_eq {s u : State} {row : CostRow} (f : u.f = s.f := by simp)
    (ime : u.ime = s.ime := by simp) (halt : u.halt = s.halt := by simp) (stop : u.stop = s.stop := by simp)
    (canonical : Memory.wf s.mem = true → Memory.wf u.mem = true := by
      simp +contextual [State.written_wf, pushed_wf]) :
    Effect (.flags 0) s (u.charge row) := .charge (.of_eq f) ime halt stop canonical

/-- The same, IME being written besides. -/
theorem Effect.setIme {s u : State} {row : CostRow} (v : Bool) (h : Effect (.flags 0) s (u.charge row)) :
    Effect { Writes.flags 0 with ime := some v } s (({ u with ime := v }).charge row) :=
  { h with ime := rfl }

/-- The illegal-opcode handler sets `stop` and does no more that an instruction's row speaks of. -/
theorem Effect.raiseIllegal (s : State) (a : Word) (v : Byte) :
    Effect { Writes.flags 0 with stop := true } s (s.raiseIllegal a v) where
  flags := .of_eq rfl
  ime := rfl
  halt := (Bool.or_false _).symm
  stop := (Bool.or_true _).symm
  states := rfl
  canonical := id

section
variable (s : State)

theorem ldAAt_effect (a : Word) (row : CostRow) : EndsIn (Effect (.flags 0) s) (ldAAt a row s) :=
  endsIn_withByteAt .charge_of_f_eq

theorem ldAtA_effect (a : Word) (row : CostRow) : EndsIn (Effect (.flags 0) s) (ldAtA a row s) :=
  endsIn_storeThen .charge_of_f_eq

theorem callTo_effect (target : Word) (row : CostRow) : EndsIn (Effect (.flags 0) s) (callTo target row s) := by
  rw [callTo_eq]; exact endsIn_orFault .charge_of_f_eq

theorem returnWith_effect (row : CostRow) : EndsIn (Effect (.flags 0) s) (returnWith row id s) := by
  rw [returnWith_eq]; exact endsIn_orFault .charge_of_f_eq

theorem ifImplemented_effect (op2 : Byte) {x : Res} (h : EndsIn (Effect (.flags 0) s) x) :
    EndsIn (Effect (.resSet s.cbResSet) s) (ifImplemented op2 s x) := by
  cases hs : s.cbResSet with
  | illegal => rw [ifImplemented_illegal hs]; exact endsIn_next (.raiseIllegal s _ _)
  | implemented => rw [ifImplemented_implemented hs]; exact h

theorem shiftReg_effect (op : ShiftOp) (r : R8) : EndsIn (Effect (.flags 0xF0) s) (shiftReg op r s) :=
  endsIn_next (.charge (.of_lowNibble (flagByte_lowNibble ..)))

theorem shiftAtHl_effect (op : ShiftOp) : EndsIn (Effect (.flags 0xF0) s) (shiftAtHl op s) :=
  endsIn_modifyByteAt (.charge (.of_lowNibble (flagByte_lowNibble ..)))

theorem bitReg_effect (b : Fin 8) (r : R8) : EndsIn (Effect (.flags 0xE0) s) (bitReg b r s) :=
  endsIn_next (.charge (.of_flagByte rfl (.inl rfl) (.inl rfl) (.inl rfl) (.inr rfl)))

theorem bitAtHl_effect (b : Fin 8) : EndsIn (Effect (.flags 0xE0) s) (bitAtHl b s) :=
  endsIn_withByteAt (.charge (.of_flagByte rfl (.inl rfl) (.inl rfl) (.inl rfl) (.inr rfl)))

theorem resReg_effect (b : Fin 8) (r : R8) : EndsIn (Effect (.resSet s.cbResSet) s) (resReg b r s) :=
  ifImplemented_effect s _ (endsIn_next .charge_of_f_eq)

theorem resAtHl_effect (b : Fin 8) : EndsIn (Effect (.resSet s.cbResSet) s) (resAtHl b s) :=
  ifImplemented_effect s _ (endsIn_modifyByteAt .charge_of_f_eq)

theorem setReg_effect (b : Fin 8) (r : R8) : EndsIn (Effect (.resSet s.cbResSet) s) (setReg b r s) :=
  ifImplemented_effect s _ (endsIn_next .charge_of_f_eq)

theorem setAtHl_effect (b : Fin 8) : EndsIn (Effect (.resSet s.cbResSet) s) (setAtHl b s) :=
  ifImplemented_effect s _ (endsIn_modifyByteAt .charge_of_f_eq)

theorem ldAAtHlStep_effect (step : Word) : EndsIn (Effect (.flags 0) s) (ldAAtHlStep step s) :=
  endsIn_withByteAt .charge_of_f_eq

theorem incMem_effect : EndsIn (Effect (.flags 0xE0) s) (incMem s) :=
  endsIn_modifyByteAt (.charge (.of_flagByte rfl (.inl rfl) (.inl rfl) (.inl rfl) (.inr rfl)))

theorem decMem_effect : EndsIn (Effect (.flags 0xE0) s) (decMem s) :=
  endsIn_modifyByteAt (.charge (.of_flagByte rfl (.inl rfl) (.inl rfl) (.inl rfl) (.inr rfl)))

theorem ldAbsSp_effect (nn : Word) : EndsIn (Effect (.flags 0) s) (ldAbsSp nn s) := by
  rw [ldAbsSp_eq]; exact endsIn_orFault .charge_of_f_eq

theorem aluWith_lowNibble (op : AluOp) (v : Byte) : (s.aluWith op v).f &&& 0x0F#8 = 0#8 := flagByte_lowNibble ..

theorem setRp2_af_lowNibble (v : Word) : (s.setRp2 .af v).f &&& 0x0F#8 = 0#8 := by
  show loByte v &&& 0xF0#8 &&& 0x0F#8 = 0#8
  rw [BitVec.and_assoc]; exact BitVec.and_zero

theorem popPair_effect (p : Rp2) : EndsIn (Effect (.flags (if p = .af then 0xF0 else 0)) s) (popPair p s) := by
  rw [popPair_eq]
  refine endsIn_orFault ?_
  cases p with
  | af => exact .charge (.of_lowNibble (setRp2_af_lowNibble ..))
  | bc | de | hl => exact .charge_of_f_eq rfl

theorem daa_n (a : Byte) (n h c : Bool) : (daa a n h c).n = n := by cases n <;> rfl

theorem decimalAdjust_effect : EndsIn (Effect (.flags 0xB0) s) (decimalAdjust s) :=
  endsIn_next (.charge (.of_flagByte rfl (.inl rfl) (.inr (daa_n ..)) (.inl rfl) (.inl rfl)))

theorem setIme_effect (v : Bool) : EndsIn (Effect { Writes.flags 0 with ime := some v } s) (setIme v s) :=
  endsIn_next (.setIme v .charge_of_f_eq)

theorem returnEnable_effect : EndsIn (Effect { Writes.flags 0 with ime := some true } s) (returnEnable s) := by
  rw [returnEnable, returnWith_eq]; exact endsIn_orFault (.setIme true .charge_of_f_eq)

theorem haltCore_effect : EndsIn (Effect { Writes.flags 0 with halt := true } s) (haltCore s) :=
  have noHalt : Effect (.flags 0) s (s.charge .halt) := .charge_of_f_eq
  endsIn_next { noHalt with halt := (Bool.or_true _).symm }

theorem cbDispatch_effect (op2 : Byte) :
    EndsIn (Effect (writes (.prefixCb op2) s.cbResSet) s) (cbDispatch op2 s) := by
  unfold cbDispatch
  have hw (x : CbResSet) : writes (.prefixCb op2) x =
      { Writes.flags (if fieldX op2 = 0 then 0xF0 else if fieldX op2 = 1 then 0xE0 else 0) with
        stop := decide (2 ≤ fieldX op2) && x == .illegal } := rfl
  rw [hw]
  generalize operandOfCode (fieldZ op2) = o
  generalize fieldX op2 = x
  rcases x with _ | _ | _ | x <;> cases o
  · exact shiftReg_effect s _ _
  · exact shiftAtHl_effect s _
  · exact bitReg_effect s _ _
  · exact bitAtHl_effect s _
  · exact resReg_effect s _ _
  · exact resAtHl_effect s _
  · exact setReg_effect s _ _
  · exact setAtHl_effect s _

end

/-- What each instruction may write is what its row in the tables says. -/
theorem exec_effect (i : Instr) (s : State) : EndsIn (Effect (writes i s.cbResSet) s) (exec i s) := by
  induction i using Instr.byShape with
  | nop | jpHl | ldSpHl | jrE _ | jpNn _ => exact endsIn_next .charge_of_f_eq
  | ldRpNn p nn => rw [exec_ldRpNn, writes_ldRpNn]; exact endsIn_next .charge_of_f_eq
  | ldRN dst n => rw [exec_ldRN, writes_ldRN]; exact endsIn_next .charge_of_f_eq
  | ldRR dst src => rw [exec_ldRR, writes_ldRR]; exact endsIn_next .charge_of_f_eq
  | incRp p => rw [exec_incRp, writes_incRp]; exact endsIn_next .charge_of_f_eq
  | decRp p => rw [exec_decRp, writes_decRp]; exact endsIn_next .charge_of_f_eq
  | rlca | rrca | rla | rra | addSpE _ | ldHlSpE _ =>
    exact endsIn_next (.charge (.of_lowNibble (flagByte_lowNibble ..)))
  | aluN op n => rw [exec_aluN, writes_aluN]; exact endsIn_next (.charge (.of_lowNibble (aluWith_lowNibble ..)))
  | aluR op r => rw [exec_aluR, writes_aluR]; exact endsIn_next (.charge (.of_lowNibble (aluWith_lowNibble ..)))
  | aluAtHl op =>
    rw [exec_aluAtHl, writes_aluAtHl]; exact endsIn_withByteAt (.charge (.of_lowNibble (aluWith_lowNibble ..)))
  | incR r =>
    rw [exec_incR, writes_incR]
    exact endsIn_next (.charge (.of_flagByte rfl (.inl rfl) (.inl rfl) (.inl rfl) (.inr rfl)))
  | decR r =>
    rw [exec_decR, writes_decR]
    exact endsIn_next (.charge (.of_flagByte rfl (.inl rfl) (.inl rfl) (.inl rfl) (.inr rfl)))
  | incAtHl => exact incMem_effect s
  | decAtHl => exact decMem_effect s
  | addHlRp p =>
    rw [exec_addHlRp, writes_addHlRp]
    exact endsIn_next (.charge (.of_flagByte rfl (.inr rfl) (.inr rfl) (.inr rfl) (.inl rfl)))
  | cpl => exact endsIn_next (.charge (.of_flagByte rfl (.inr rfl) (.inl rfl) (.inl rfl) (.inr rfl)))
  | scf | ccf => exact endsIn_next (.charge (.of_flagByte rfl (.inr rfl) (.inl rfl) (.inl rfl) (.inl rfl)))
  | daa => exact decimalAdjust_effect s
  | djnzE e => exact endsIn_ite (endsIn_next .charge_of_f_eq) (endsIn_next .charge_of_f_eq)
  | jrIf cc e =>
    rw [exec_jrIf, writes_jrIf]; exact endsIn_ite (endsIn_next .charge_of_f_eq) (endsIn_next .charge_of_f_eq)
  | jpIf cc nn =>
    rw [exec_jpIf, writes_jpIf]; exact endsIn_ite (endsIn_next .charge_of_f_eq) (endsIn_next .charge_of_f_eq)
  | callIf cc nn =>
    rw [exec_callIf, writes_callIf]; exact endsIn_ite (callTo_effect s _ _) (endsIn_next .charge_of_f_eq)
  | retIf cc =>
    rw [exec_retIf, writes_retIf]; exact endsIn_ite (returnWith_effect s _) (endsIn_next .charge_of_f_eq)
  | callNn nn => exact callTo_effect s _ _
  | rst y => rw [exec_rst, writes_rst]; exact callTo_effect s _ _
  | ret => exact returnWith_effect s _
  | push p => rw [exec_push, writes_push, pushPair_eq]; exact endsIn_orFault .charge_of_f_eq
  | pop p => rw [exec_pop, writes_pop]; exact popPair_effect s p
  | ldRAtHl dst => rw [exec_ldRAtHl, writes_ldRAtHl]; exact endsIn_withByteAt .charge_of_f_eq
  | ldAAtBc | ldAAtDe | ldAAtC | ldhAAtN _ | ldAAtNn _ => exact ldAAt_effect s _ _
  | ldAAtHlInc | ldAAtHlDec => exact ldAAtHlStep_effect s _
  | ldAtHlR src => rw [exec_ldAtHlR, writes_ldAtHlR]; exact endsIn_storeThen .charge_of_f_eq
  | ldAtBcA | ldAtDeA | ldAtCA | ldhAtNA _ | ldAtNnA _ => exact ldAtA_effect s _ _
  | ldAtHlN _ | ldAtHlIncA | ldAtHlDecA => exact endsIn_storeThen .charge_of_f_eq
  | ldAtNnSp nn => exact ldAbsSp_effect s nn
  | halt => exact haltCore_effect s
  | di | ei => exact setIme_effect s _
  | reti => exact returnEnable_effect s
  | prefixCb opcode2 => exact cbDispatch_effect s opcode2
  | shiftR op r => rw [exec_shiftR, writes_shiftR]; exact shiftReg_effect s op r
  | shiftAtHl op => rw [exec_shiftAtHl, writes_shiftAtHl]; exact shiftAtHl_effect s op
  | bitR b r => rw [exec_bitR, writes_bitR]; exact bitReg_effect s b r
  | bitAtHl b => rw [exec_bitAtHl, writes_bitAtHl]; exact bitAtHl_effect s b
  | resR b r => rw [exec_resR, writes_resR]; exact resReg_effect s b r
  | resAtHl b => rw [exec_resAtHl, writes_resAtHl]; exact resAtHl_effect s b
  | setR b r => rw [exec_setR, writes_setR]; exact setReg_effect s b r
  | setAtHl b => rw [exec_setAtHl, writes_setAtHl]; exact setAtHl_effect s b
  | illegalD3 | illegalDB | illegalDD | illegalE3 | illegalE4 | illegalEB | illegalEC | illegalED | illegalF4
  | illegalFC | illegalFD => exact endsIn_next (.raiseIllegal s _ _)

/-! ### What is read off -/

/-- A fetch takes answers of MEM and does nothing else. -/
theorem State.fetch_after {s : State} {got : Fetched} (h : s.fetch = some got) : ∃ k, got.after = s.accessed k := by
  rw [State.fetch_eq] at h
  split at h
  · cases h; exact ⟨_, rfl⟩
  · cases h

/-- What an executed step leaves: its instruction's effect from the state after the fetch, and the totals. -/
theorem step_effect {s t : State} (hh : s.haltedOrStopped = false) (h : step s = .next t) :
    ∃ i, Effect (writes i s.cbResSet) s t ∧
      t.clkM = s.clkM + t.m ∧ t.clkT = s.clkT + t.t ∧ t.r = s.r + 1 := by
  rcases step_next_cases h with ⟨held, -⟩ | ⟨got, u, -, hfetch, hexec, rfl⟩
  · rw [hh] at held; cases held
  · obtain ⟨k, hk⟩ := State.fetch_after hfetch
    rw [hk] at hexec
    obtain ⟨hM, hT, hr⟩ := exec_totals hexec
    have he := exec_effect _ _ _ hexec
    refine ⟨got.instr, { he with }, ?_, ?_, hr⟩
    · exact congrArg (· + u.m) hM
    · exact congrArg (· + u.t) hT

/-- Settles O7: a held core is left as it is; an executed step has the effect of its instruction, and adds to the
totals amounts in the ratio of the totals. -/
theorem stepKeepsInvariant : Obligations.StepKeepsInvariant := by
  intro s t hs h
  cases hh : s.haltedOrStopped with
  | true => rw [step_held hh] at h; cases h; exact hs
  | false =>
    obtain ⟨i, he, hM, hT, -⟩ := step_effect hh h
    exact
      { lowNibble := (he.flags hs.lowNibble).1
        states := he.states
        totals := by rw [hM, hT, he.states, hs.totals, Nat.mul_add]
        canonical := he.canonical hs.canonical }

/-- Settles O11: `exec` leaves the totals and R, which the step around it moves on. -/
theorem stepAccounting : Obligations.StepAccounting := by
  intro s t hh h
  obtain ⟨i, he, hM, hT, hr⟩ := step_effect hh h
  exact ⟨he.states, hM, hT, by rw [hr, BitVec.toNat_add]; rfl⟩

/-- Settles O57: the control bits of the row each instruction has in the tables. -/
theorem controlBitWriters : Obligations.ControlBitWriters := by
  intro i s t h
  obtain ⟨-, ime, halt, stop, -, -⟩ := exec_effect i s t h
  refine ⟨?_, halt, stop⟩
  rw [ime, writes_ime]
  simp only [apply_ite (Option.getD · s.ime), Option.getD_some, Option.getD_none]

/-- Settles O58: the flags of that row. -/
theorem flagFrame : Obligations.FlagFrame := fun i s t hs h => ((exec_effect i s t h).flags hs).2

end Sys2Proof.Machine
end

section
/-! What the host may do keeps the invariant. -/

namespace Sys2Proof.Machine

/-- The entry's cost is charged and accounted like an instruction's (R267). -/
theorem State.interruptEntry_inv {s t : State} {v : InterruptVector} (hs : s.Inv) (h : s.interruptEntry v = .next t) :
    t.Inv := by
  rw [State.interruptEntry_eq] at h
  split at h
  · cases h; exact hs
  · split at h
    · cases h
      exact
        { lowNibble := by simpa using hs.lowNibble
          states := rfl
          totals := by simp [hs.totals, Nat.mul_add]
          canonical := pushed_wf _ _ hs.canonical }
    · cases h

/-- Settles O8: of the invariant, reset speaks by INIT, the interrupt entry by its push and its cost, MEM's changes by
the new RAM alone. -/
theorem hostOperationsKeepInvariant : Obligations.HostOperationsKeepInvariant := by
  intro s hs
  refine ⟨fun init => ?_, { hs with }, { hs with }, fun v t => State.interruptEntry_inv hs, ?_⟩
  · exact { State.resetWith_inv init with canonical := hs.canonical }
  · intro mem regions answers setting hmem
    exact ⟨{ hs with canonical := hmem }, { hs with canonical := hmem }⟩

end Sys2Proof.Machine
end

section
/-! The register file, its pair views and the flag byte (spec/10_state.md R10 to R16). -/

namespace Sys2Proof.Machine

theorem State.setR8_r8 (s : State) (x y : R8) (v : Byte) : (s.setR8 x v).r8 y = if y = x then v else s.r8 y := by
  split
  · next h => rw [h, State.setR8_same]
  · next h => exact State.setR8_other s v h

theorem State.setRp_rp (s : State) (p : Rp) (v : Word) : (s.setRp p v).rp p = v := by
  cases p with
  | bc | de | hl => exact joinBytes_halves v
  | sp => rfl

/-- Dropping the low nibble of the low byte is dropping that of the word. -/
theorem joinBytes_maskLow (v : Word) : joinBytes (hiByte v) (loByte v &&& 0xF0#8) = v &&& 0xFFF0#16 := by
  have hm : (0xFFF0#16 : Word) = 0xFF#8 ++ 0xF0#8 := rfl
  conv_rhs => rw [← joinBytes_halves v, joinBytes, hm, BitVec.and_append]
  rw [joinBytes, show (0xFF#8 : Byte) = BitVec.allOnes 8 from rfl, BitVec.and_allOnes]

theorem State.setRp2_rp2 (s : State) (p : Rp2) (v : Word) :
    (s.setRp2 p v).rp2 p = if p = .af then v &&& 0xFFF0#16 else v := by
  cases p with
  | bc | de | hl => exact joinBytes_halves v
  | af => exact joinBytes_maskLow v

/-- Settles O17: a pair is its joined halves, and joining the halves of a word gives it back. -/
theorem registersAndPairs : Obligations.RegistersAndPairs := fun s =>
  ⟨s.setR8_r8, joinBytes_toNat .., joinBytes_toNat .., joinBytes_toNat .., joinBytes_toNat ..,
    fun v => ⟨rfl, rfl, rfl, rfl, (s.setRp_rp · v), (s.setRp2_rp2 · v)⟩⟩

theorem Flag.bit_lt (k : Flag) : k.bit < 8 := by cases k <;> decide

/-- `setFlag` is the set or clear of a single bit that SET and RES do on an operand. -/
theorem State.setFlag_f (s : State) (k : Flag) (v : Bool) :
    (s.setFlag k v).f = if v then raiseBit ⟨k.bit, k.bit_lt⟩ s.f else clearBit ⟨k.bit, k.bit_lt⟩ s.f := rfl

theorem State.setFlag_bit (s : State) (k : Flag) (v : Bool) {j : Nat} (hj : j < 8) :
    (s.setFlag k v).f.getLsbD j = if j = k.bit then v else s.f.getLsbD j := by
  rw [State.setFlag_f]
  cases v
  · exact clearBit_bit _ _ _ hj
  · exact raiseBit_bit _ _ _ hj

theorem flagByte_toNat (z n h c : Bool) :
    (flagByte z n h c).toNat =
      (if z then 0x80 else 0) + (if n then 0x40 else 0) + (if h then 0x20 else 0) + (if c then 0x10 else 0) := by
  revert z n h c; decide

/-- Settles O18: `setFlag` replaces one bit, as RES and SET do. -/
theorem flagLayout : Obligations.FlagLayout := by
  intro s z n h c v k
  refine ⟨rfl, rfl, rfl, rfl, flagByte_toNat z n h c, rfl, ?_, rfl, fun j hj hk => ?_⟩
  · exact (s.setFlag_bit k v k.bit_lt).trans (if_pos rfl)
  · exact (s.setFlag_bit k v hj).trans (if_neg hk)

end Sys2Proof.Machine
end

section
/-! The byte and word accesses of MEM (spec/20_memory.md R40 to R45), and the canonical form of its RAM (log 2). -/

namespace Sys2Proof.Machine

/-! ### Canonical memories -/

/-- Entries at `low` or above are what a canonical memory reads other than the unlisted byte. -/
theorem Memory.le_of_read_ne {low a : Nat} {m : List Host.Cell} (hm : Memory.wfFrom low m = true)
    (h : Memory.read m a ≠ Config.unlistedByte) : low ≤ a := by
  induction m generalizing low with
  | nil => exact absurd rfl h
  | cons cell rest ih =>
    obtain ⟨k, v⟩ := cell
    obtain ⟨hlow, -, -, hrest⟩ := (Memory.wfFrom_cons low k v rest).mp hm
    by_cases hk : k = a
    · exact hk ▸ hlow
    · rw [Memory.read, if_neg hk] at h
      exact hlow.trans (Nat.le_of_succ_le (ih hrest h))

theorem Memory.read_eq_unlisted {low a : Nat} {m : List Host.Cell} (hm : Memory.wfFrom low m = true) (h : a < low) :
    Memory.read m a = Config.unlistedByte :=
  not_not.mp fun hne => h.not_ge (Memory.le_of_read_ne hm hne)

/-- The key of the first entry is the least address that reads other than the unlisted byte, so both memories have it. -/
theorem Memory.eq_of_read_eq {low : Nat} {m₁ m₂ : List Host.Cell} (h₁ : Memory.wfFrom low m₁ = true)
    (h₂ : Memory.wfFrom low m₂ = true) (h : ∀ a, a < 65536 → Memory.read m₁ a = Memory.read m₂ a) : m₁ = m₂ := by
  induction m₁ generalizing low m₂ with
  | nil =>
    cases m₂ with
    | nil => rfl
    | cons cell rest =>
      obtain ⟨k, v⟩ := cell
      obtain ⟨-, hk, hv, -⟩ := (Memory.wfFrom_cons low k v rest).mp h₂
      exact absurd ((h k hk).trans (if_pos rfl)).symm hv
  | cons cell₁ rest₁ ih =>
    obtain ⟨k₁, v₁⟩ := cell₁
    obtain ⟨-, hk₁, hv₁, hrest₁⟩ := (Memory.wfFrom_cons low k₁ v₁ rest₁).mp h₁
    have read₁ : Memory.read m₂ k₁ = v₁ := (h k₁ hk₁).symm.trans (if_pos rfl)
    cases m₂ with
    | nil => exact absurd read₁.symm hv₁
    | cons cell₂ rest₂ =>
      obtain ⟨k₂, v₂⟩ := cell₂
      obtain ⟨-, hk₂, hv₂, hrest₂⟩ := (Memory.wfFrom_cons low k₂ v₂ rest₂).mp h₂
      have read₂ : Memory.read ((k₁, v₁) :: rest₁) k₂ = v₂ := (h k₂ hk₂).trans (if_pos rfl)
      have hle : k₂ ≤ k₁ := Memory.le_of_read_ne ((Memory.wfFrom_cons ..).mpr ⟨le_rfl, hk₂, hv₂, hrest₂⟩) (read₁ ▸ hv₁)
      have hge : k₁ ≤ k₂ := Memory.le_of_read_ne ((Memory.wfFrom_cons ..).mpr ⟨le_rfl, hk₁, hv₁, hrest₁⟩) (read₂ ▸ hv₂)
      obtain rfl : k₁ = k₂ := le_antisymm hge hle
      obtain rfl : v₁ = v₂ := (if_pos rfl).symm.trans read₂
      rw [ih hrest₁ hrest₂ fun a ha => ?_]
      by_cases hk : k₁ = a
      · have below : a < k₁ + 1 := hk ▸ Nat.lt_succ_self k₁
        rw [Memory.read_eq_unlisted hrest₁ below, Memory.read_eq_unlisted hrest₂ below]
      · simpa only [Memory.read, if_neg hk] using h a ha

/-- Settles O15: the first entries agree, and so on along the lists. -/
theorem canonicalMemoriesEqual : Obligations.CanonicalMemoriesEqual := fun _ _ => Memory.eq_of_read_eq

/-! ### Byte accesses -/

theorem State.readByte_of_canRead {s : State} {a : Word} (h : s.canRead a = true) :
    s.readByte a = some (s.readValue a, s.accessed [a]) := if_pos h

theorem State.readByte_of_refused {s : State} {a : Word} (h : s.canRead a = false) : s.readByte a = none := by
  rw [State.readByte, h]; rfl

theorem State.writeByte_of_canWrite {s : State} {a : Word} (v : Byte) (h : s.canWrite a = true) :
    s.writeByte a v = some (s.written a v) := if_pos h

theorem State.writeByte_of_refused {s : State} {a : Word} (v : Byte) (h : s.canWrite a = false) :
    s.writeByte a v = none := by
  rw [State.writeByte, h]; rfl

theorem State.written_of_discarded {s : State} {a : Word} (v : Byte) (h : s.keepsWrite a = false) :
    s.written a v = s.accessed [a] := by
  rw [State.written_eq, h]; rfl

/-- A byte kept by the RAM reads back where the RAM answers next. -/
theorem State.readByte_written {s : State} {a : Word} {v : Byte} (keeps : s.keepsWrite a = true)
    (ram : (s.written a v).nextAnswer a = .ram) (answers : (s.written a v).canRead a = true) :
    (s.written a v).readByte a = some (v, (s.written a v).accessed [a]) := by
  rw [State.readByte_of_canRead answers, State.readValue_of_ram ram, State.peek_written_same, if_pos keeps]

/-! ### MEM as an oracle -/

/-- The state whose MEM answers the next access at `a` with `next`. -/
def State.answering (s : State) (a : Word) (next : Answer) : State :=
  s.withMem s.mem s.regions ((a, next) :: s.answers)

section
variable (s : State) (a : Word) (next : Answer)

theorem State.nextAnswer_answering_same : (s.answering a next).nextAnswer a = next := if_pos rfl

theorem State.nextAnswer_answering_other {x : Word} (h : x ≠ a) :
    (s.answering a next).nextAnswer x = s.nextAnswer x := if_neg h.symm

/-- The answer is taken by the access. -/
theorem State.accessed_answering : (s.answering a next).accessed [a] = s := by
  have taken : Answers.past a ((a, next) :: s.answers) = s.answers := if_pos rfl
  show { s with answers := Answers.past a ((a, next) :: s.answers) } = s
  rw [taken]

/-- An answer at one address is no answer at another. -/
theorem State.access_answering_other {x : Word} (h : x ≠ a) :
    (s.answering a next).canRead x = s.canRead x ∧ (s.answering a next).readValue x = s.readValue x ∧
      (s.answering a next).canWrite x = s.canWrite x := by
  unfold State.canRead State.readValue State.canWrite
  rw [s.nextAnswer_answering_other a next h]
  exact ⟨rfl, rfl, rfl⟩

theorem State.access_answering_device (v w : Byte) :
    (s.answering a (.device w)).readByte a = some (w, s) ∧ (s.answering a (.device w)).writeByte a v = some s := by
  obtain ⟨reads, value, writes, discards⟩ := State.of_device (s.nextAnswer_answering_same a (.device w))
  rw [State.readByte_of_canRead reads, State.writeByte_of_canWrite v writes, State.written_of_discarded v discards,
    State.accessed_answering, value]
  exact ⟨rfl, rfl⟩

theorem State.access_answering_refuse (v : Byte) :
    (s.answering a .refuse).readByte a = none ∧ (s.answering a .refuse).writeByte a v = none := by
  obtain ⟨reads, writes⟩ := State.of_refuse (s.nextAnswer_answering_same a .refuse)
  exact ⟨State.readByte_of_refused reads, State.writeByte_of_refused v writes⟩

end

/-- Settles O14: the accesses by what MEM answers, and a MEM for each answer. -/
theorem readAfterWrite : Obligations.ReadAfterWrite := by
  intro s a v w
  refine ⟨State.readByte_of_canRead, State.readByte_of_refused, State.writeByte_of_refused v, fun writes => ?_, ?_⟩
  · exact ⟨s.written a v, State.writeByte_of_canWrite v writes, s.written_storedAt a v, s.written_frame a v,
      State.readByte_written, fun discards => by rw [State.written_of_discarded v discards]; rfl, s.written_wf a v⟩
  · obtain ⟨deviceRead, deviceWrite⟩ := s.access_answering_device a v w
    obtain ⟨refusedRead, refusedWrite⟩ := s.access_answering_refuse a v
    exact ⟨deviceRead, deviceWrite, refusedRead, refusedWrite, fun next _ =>
      ⟨fun _ => s.access_answering_other a next, rfl⟩⟩

/-! ### Word accesses -/

theorem joinBytes_eq_ofNat (hi lo : Byte) : joinBytes hi lo = BitVec.ofNat 16 (hi.toNat * 256 + lo.toNat) := by
  rw [← joinBytes_toNat, BitVec.ofNat_toNat, BitVec.setWidth_eq]

/-- What two accepted writes leave at their addresses. -/
theorem State.peek_written_written (s : State) {a b : Word} (v w : Byte) (h : b ≠ a) :
    ((s.written a v).written b w).peek a = (if s.keepsWrite a then v else s.peek a) ∧
      ((s.written a v).written b w).peek b = (if s.keepsWrite b then w else s.peek b) := by
  constructor
  · rw [State.peek_written_other _ w h.symm, State.peek_written_same]
  · rw [State.peek_written_same, State.keepsWrite_written, State.keepsWrite_accessed _ (by simpa using h),
      State.peek_written_other _ v h]

/-- Settles O16: the two addresses differ, at 0xFFFF too, so neither access decides what the other gets. -/
theorem wordIsTwoBytes : Obligations.WordIsTwoBytes := by
  intro s a v
  rw [State.readWord_eq, State.writeWord_eq]
  refine ⟨fun lo hi => ?_, fun refused => ?_, fun lo hi => ?_, fun refused => ?_⟩
  · rw [lo, hi, joinBytes_eq_ofNat]; rfl
  · rw [Bool.and_eq_false_iff.mpr refused]; rfl
  · obtain ⟨low, high⟩ := s.peek_written_written (loByte v) (hiByte v) (show a + 1 ≠ a by simp)
    refine ⟨_, if_pos (by rw [lo, hi]; rfl), low, high, fun x hlo hhi => ?_, s.written_written_frame a (a + 1) _ _⟩
    rw [State.peek_written_other _ _ hhi, State.peek_written_other _ _ hlo]
  · rw [Bool.and_eq_false_iff.mpr refused]; rfl

/-! ### The stack -/

/-- A word pushed on a RAM that keeps and answers its two bytes is the word a pop then gets. -/
theorem pushed_popped {s : State} (v : Word) (empty : s.answers = [])
    (keepsHi : s.keepsWrite (s.sp - 1) = true) (keepsLo : s.keepsWrite (s.sp - 2) = true)
    (readsHi : s.canRead (s.sp - 1) = true) (readsLo : s.canRead (s.sp - 2) = true) :
    (pushed s v).canPop = true ∧ (pushed s v).stackTop = v ∧ (pushed s v).sp + 2 = s.sp := by
  have answers : (pushed s v).answers = s.answers := by rw [pushed_answers, State.accessed, empty]; rfl
  have canRead_eq (x : Word) : (pushed s v).canRead x = s.canRead x := by
    rw [State.canRead, State.canRead, State.nextAnswer, State.nextAnswer, answers, pushed_regions]
  have ram (x : Word) : (pushed s v).readValue x = (pushed s v).peek x :=
    State.readValue_of_ram (by rw [State.nextAnswer, answers, empty]; rfl)
  have spHi : s.sp - 2 + 1 = s.sp - 1 := by bv_omega
  obtain ⟨hi, lo, -⟩ := pushed_pushedAt s v
  refine ⟨?_, ?_, ?_⟩
  · rw [State.canPop, pushed_sp, spHi, canRead_eq, canRead_eq, readsHi, readsLo]; rfl
  · rw [State.stackTop, pushed_sp, spHi, ram, ram, hi, lo, if_pos keepsHi, if_pos keepsLo, joinBytes_halves]
  · rw [pushed_sp, BitVec.sub_add_cancel]

/-- F, its low nibble zero, is not changed by the mask of POP AF (R207). -/
theorem maskLow_of_lowNibble {f : Byte} (h : f &&& 0x0F#8 = 0#8) : f &&& 0xF0#8 = f := by
  calc f &&& 0xF0#8 = f &&& 0xF0#8 ||| f &&& 0x0F#8 := by rw [h, BitVec.or_zero]
    _ = f &&& BitVec.allOnes 8 := BitVec.and_or_distrib_left.symm
    _ = f := BitVec.and_allOnes

/-- A pair popped back is the pair that was pushed, AF if F's low nibble is zero. -/
theorem State.setRp2_rp2_self (s t : State) {p : Rp2} (h : p = .af → s.f &&& 0x0F#8 = 0#8) :
    (t.setRp2 p (s.rp2 p)).rp2 p = s.rp2 p := by
  rw [State.setRp2_rp2]
  split
  · next hp =>
    subst hp
    show s.af &&& 0xFFF0#16 = s.af
    rw [← joinBytes_maskLow, State.af, hiByte_joinBytes, loByte_joinBytes, maskLow_of_lowNibble (h rfl)]
  · rfl

@[simp] theorem State.charge_rp2 (s : State) (row : CostRow) (p : Rp2) : (s.charge row).rp2 p = s.rp2 p := by
  cases p <;> rfl

@[simp] theorem State.charge_canPop (s : State) (row : CostRow) : (s.charge row).canPop = s.canPop := rfl
@[simp] theorem State.charge_stackTop (s : State) (row : CostRow) : (s.charge row).stackTop = s.stackTop := rfl
@[simp] theorem State.setPc_canPop (s : State) (v : Word) : (s.setPc v).canPop = s.canPop := rfl
@[simp] theorem State.setPc_stackTop (s : State) (v : Word) : (s.setPc v).stackTop = s.stackTop := rfl

/-- Settles O53: PUSH and CALL push alike, POP and RET pop alike. -/
theorem stackRoundTrips : Obligations.StackRoundTrips := by
  intro s p nn empty push keepsHi keepsLo readsHi readsLo
  have popped (v : Word) := pushed_popped v empty keepsHi keepsLo readsHi readsLo
  refine ⟨fun lowNibble => ?_, ?_⟩
  · obtain ⟨pop, top, sp⟩ := popped (s.rp2 p)
    refine ⟨_, _, (exec_push p s).trans ((pushPair_eq p s).trans (if_pos push)),
      (exec_pop p _).trans ((popPair_eq p _).trans (if_pos ?_)), ?_, ?_⟩
    · rwa [State.charge_canPop]
    · rw [State.charge_rp2, State.charge_stackTop, top]
      exact s.setRp2_rp2_self _ lowNibble
    · rwa [State.charge_sp, State.setRp2_sp, State.setSp_sp, State.charge_sp]
  · obtain ⟨pop, top, sp⟩ := popped s.pc
    refine ⟨_, _, (callTo_eq nn .call s).trans (if_pos push), rfl, (returnWith_eq .ret id _).trans (if_pos ?_), ?_, ?_⟩
    · rwa [State.charge_canPop, State.setPc_canPop]
    · rwa [State.charge_pc, id, State.setPc_pc, State.charge_stackTop, State.setPc_stackTop]
    · rwa [State.charge_sp, id, State.setPc_sp, State.setSp_sp, State.charge_sp, State.setPc_sp]

end Sys2Proof.Machine
end

section
/-! The accesses each instruction makes (spec/20_memory.md R46, R49), and that a refused one of them is the only fault
(spec/60_exceptions.md R261): one theorem over all instructions, from which both claims are read off. -/

namespace Sys2Proof.Machine

/-! ### The table R46 -/

/-- The addresses read from and those stored to. -/
structure Accesses where
  loads : List Word
  stores : List Word

def Accesses.none : Accesses := ⟨[], []⟩

/-- A read-modify-write at HL. -/
def State.modifiesAtHl (s : State) : Accesses := ⟨[s.hl], [s.hl]⟩

def State.pushes (s : State) : Accesses := ⟨[], [s.sp - 1, s.sp - 2]⟩

def State.pops (s : State) : Accesses := ⟨[s.sp, s.sp + 1], []⟩

/-- The row of an instruction. -/
def accesses (i : Instr) (s : State) : Accesses := ⟨loadAddresses i s, storeAddresses i s⟩

section
variable (s : State)

theorem accesses_ldRpNn (p : Rp) (nn : Word) : accesses (Instr.ldRpNn p nn) s = .none := by cases p <;> rfl

theorem accesses_ldRN (dst : R8) (n : Byte) : accesses (Instr.ldRN dst n) s = .none := by cases dst <;> rfl

theorem accesses_ldRR (dst src : R8) : accesses (Instr.ldRR dst src) s = .none := by cases dst <;> cases src <;> rfl

theorem accesses_aluN (op : AluOp) (n : Byte) : accesses (Instr.aluN op n) s = .none := by cases op <;> rfl

theorem accesses_aluR (op : AluOp) (r : R8) : accesses (Instr.aluR op r) s = .none := by
  cases op <;> cases r <;> rfl

theorem accesses_incR (r : R8) : accesses (Instr.incR r) s = .none := by cases r <;> rfl

theorem accesses_decR (r : R8) : accesses (Instr.decR r) s = .none := by cases r <;> rfl

theorem accesses_incRp (p : Rp) : accesses (Instr.incRp p) s = .none := by cases p <;> rfl

theorem accesses_decRp (p : Rp) : accesses (Instr.decRp p) s = .none := by cases p <;> rfl

theorem accesses_addHlRp (p : Rp) : accesses (Instr.addHlRp p) s = .none := by cases p <;> rfl

theorem accesses_jrIf (cc : Cond) (e : Byte) : accesses (Instr.jrIf cc e) s = .none := by cases cc <;> rfl

theorem accesses_jpIf (cc : Cond) (nn : Word) : accesses (Instr.jpIf cc nn) s = .none := by cases cc <;> rfl

theorem accesses_shiftR (op : ShiftOp) (r : R8) : accesses (Instr.shiftR op r) s = .none := by
  cases op <;> cases r <;> rfl

theorem accesses_bitR (b : Fin 8) (r : R8) : accesses (Instr.bitR b r) s = .none := by
  fin_cases b <;> cases r <;> rfl

theorem accesses_resR (b : Fin 8) (r : R8) : accesses (Instr.resR b r) s = .none := by
  fin_cases b <;> cases r <;> rfl

theorem accesses_setR (b : Fin 8) (r : R8) : accesses (Instr.setR b r) s = .none := by
  fin_cases b <;> cases r <;> rfl

theorem accesses_ldRAtHl (dst : R8) : accesses (Instr.ldRAtHl dst) s = ⟨[s.hl], []⟩ := by cases dst <;> rfl

theorem accesses_aluAtHl (op : AluOp) : accesses (Instr.aluAtHl op) s = ⟨[s.hl], []⟩ := by cases op <;> rfl

theorem accesses_bitAtHl (b : Fin 8) : accesses (Instr.bitAtHl b) s = ⟨[s.hl], []⟩ := by fin_cases b <;> rfl

theorem accesses_ldAtHlR (src : R8) : accesses (Instr.ldAtHlR src) s = ⟨[], [s.hl]⟩ := by cases src <;> rfl

theorem accesses_shiftAtHl (op : ShiftOp) : accesses (Instr.shiftAtHl op) s = s.modifiesAtHl := by cases op <;> rfl

theorem accesses_push (p : Rp2) : accesses (Instr.push p) s = s.pushes := by cases p <;> rfl

theorem accesses_pop (p : Rp2) : accesses (Instr.pop p) s = s.pops := by cases p <;> rfl

theorem accesses_rst (y : Fin 8) : accesses (Instr.rst y) s = s.pushes := by fin_cases y <;> rfl

/-- The accesses that are made under a condition and not otherwise. -/
def Accesses.onlyIf (c : Prop) [Decidable c] (w : Accesses) : Accesses :=
  ⟨if c then w.loads else [], if c then w.stores else []⟩

theorem Accesses.onlyIf_none (c : Prop) [Decidable c] : Accesses.none.onlyIf c = .none := by
  rw [Accesses.onlyIf]; exact congr (congrArg Accesses.mk (ite_self _)) (ite_self _)

theorem Accesses.onlyIf_pos {c : Prop} [Decidable c] (h : c) (w : Accesses) : w.onlyIf c = w := by
  rw [Accesses.onlyIf, if_pos h, if_pos h]

theorem Accesses.onlyIf_neg {c : Prop} [Decidable c] (h : ¬c) (w : Accesses) : w.onlyIf c = .none := by
  rw [Accesses.onlyIf, if_neg h, if_neg h]; rfl

theorem accesses_callIf (cc : Cond) (nn : Word) :
    accesses (Instr.callIf cc nn) s = s.pushes.onlyIf (s.cond cc = true) := by
  rw [accesses, storeAddresses_callIf, Accesses.onlyIf]
  cases cc <;> exact congr (congrArg Accesses.mk (ite_self _).symm) rfl

theorem accesses_retIf (cc : Cond) : accesses (Instr.retIf cc) s = s.pops.onlyIf (s.cond cc = true) := by
  rw [accesses, loadAddresses_retIf, Accesses.onlyIf]
  cases cc <;> exact congrArg (Accesses.mk _) (ite_self _).symm

theorem accesses_resAtHl (b : Fin 8) :
    accesses (Instr.resAtHl b) s = s.modifiesAtHl.onlyIf (s.cbResSet = .implemented) := by
  rw [accesses, loadAddresses_resAtHl, storeAddresses_resAtHl]; rfl

theorem accesses_setAtHl (b : Fin 8) :
    accesses (Instr.setAtHl b) s = s.modifiesAtHl.onlyIf (s.cbResSet = .implemented) := by
  rw [accesses, loadAddresses_setAtHl, storeAddresses_setAtHl]; rfl

theorem operandOfCode_eq_atHl {z : Nat} : operandOfCode z = .atHl ↔ z = 6 := by
  unfold operandOfCode; split <;> simp_all

/-- The row of a CB slot by the fields of its second byte, as R69 reads them. -/
def State.cbAccesses (s : State) (x : Nat) : Operand8 → Accesses
  | .reg _ => .none
  | .atHl =>
    match x with
    | 0 => s.modifiesAtHl
    | 1 => ⟨[s.hl], []⟩
    | _ => s.modifiesAtHl.onlyIf (s.cbResSet = .implemented)

theorem accesses_prefixCb (op2 : Byte) :
    accesses (.prefixCb op2) s = s.cbAccesses (fieldX op2) (operandOfCode (fieldZ op2)) := by
  rw [accesses, loadAddresses_prefixCb, storeAddresses_prefixCb]
  simp only [← operandOfCode_eq_atHl]
  generalize operandOfCode (fieldZ op2) = o
  cases o with
  | reg r => rfl
  | atHl =>
    generalize fieldX op2 = x
    rcases x with _ | _ | x <;> simp [State.cbAccesses, State.modifiesAtHl, Accesses.onlyIf]

end

/-! ### What accesses leave of MEM -/

/-- MEM in a state and in the one after these accesses. -/
structure MemFrame (w : Accesses) (s t : State) : Prop where
  bytes : ∀ a, a ∉ w.stores → t.peek a = s.peek a
  ram : w.stores = [] → t.mem = s.mem
  answers : t.answers = (s.accessed (w.loads ++ w.stores)).answers
  regions : t.regions = s.regions
  cbResSet : t.cbResSet = s.cbResSet

/-- MEM is as it was. -/
theorem MemFrame.kept {s t : State} (mem : t.mem = s.mem := by simp) (answers : t.answers = s.answers := by simp)
    (regions : t.regions = s.regions := by simp) (cbResSet : t.cbResSet = s.cbResSet := by simp) :
    MemFrame .none s t where
  bytes a _ := State.peek_of_mem mem a
  ram _ := mem
  answers := answers
  regions := regions
  cbResSet := cbResSet

theorem MemFrame.accessed (s : State) (k : List Word) : MemFrame ⟨k, []⟩ s (s.accessed k) where
  bytes _ _ := rfl
  ram _ := rfl
  answers := by rw [List.append_nil]
  regions := rfl
  cbResSet := rfl

theorem MemFrame.written (s : State) (a : Word) (v : Byte) : MemFrame ⟨[], [a]⟩ s (s.written a v) where
  bytes _ h := s.peek_written_other v (List.ne_of_not_mem_cons h)
  ram := nofun
  answers := rfl
  regions := rfl
  cbResSet := rfl

/-- After other accesses, accesses that only store. -/
theorem MemFrame.trans {w : Accesses} {k : List Word} {s t u : State} (h : MemFrame w s t)
    (h' : MemFrame ⟨[], k⟩ t u) : MemFrame ⟨w.loads, w.stores ++ k⟩ s u where
  bytes a ha := by
    rw [List.mem_append, not_or] at ha
    rw [h'.bytes a ha.2, h.bytes a ha.1]
  ram hnil := by
    obtain ⟨hw, hk⟩ := List.append_eq_nil_iff.mp hnil
    rw [h'.ram hk, h.ram hw]
  answers := by
    rw [h'.answers, List.nil_append, ← List.append_assoc, ← State.accessed_accessed]
    show k.foldl _ t.answers = k.foldl _ _
    rw [h.answers]
  regions := h'.regions.trans h.regions
  cbResSet := h'.cbResSet.trans h.cbResSet

theorem MemFrame.trans_kept {w : Accesses} {s t u : State} (h : MemFrame w s t) (h' : MemFrame .none t u) :
    MemFrame w s u := by
  have := h.trans h'
  rwa [List.append_nil] at this

theorem MemFrame.pushed (s : State) (v : Word) : MemFrame s.pushes s (pushed s v) :=
  ((MemFrame.written s _ (hiByte v)).trans (.written _ _ (loByte v))).trans_kept (.kept rfl rfl rfl rfl)

/-! ### Outcomes -/

theorem State.canModify_of_neverRefuses {s : State} (h : s.neverRefuses = true) (a : Word) : s.canModify a = true := by
  rw [State.canModify, State.canRead_of_neverRefuses h,
    State.canWrite_of_neverRefuses (State.neverRefuses_accessed _ h)]; rfl

theorem State.canPush_of_neverRefuses {s : State} (h : s.neverRefuses = true) : s.canPush = true := by
  rw [State.canPush, State.canWrite_of_neverRefuses h, State.canWrite_of_neverRefuses h]; rfl

theorem State.canPop_of_neverRefuses {s : State} (h : s.neverRefuses = true) : s.canPop = true := by
  rw [State.canPop, State.canRead_of_neverRefuses h, State.canRead_of_neverRefuses h]; rfl

/-- An outcome of an instruction that makes these accesses: the state they leave, or MemFault when MEM may refuse. -/
inductive Makes (w : Accesses) (s : State) : Res → Prop
  | next {t : State} (frame : MemFrame w s t) : Makes w s (.next t)
  | fault (refuses : s.neverRefuses = false) : Makes w s (.fault .memFault)

section
variable {s : State}

theorem makes_kept {u : State} (mem : u.mem = s.mem := by simp) (answers : u.answers = s.answers := by simp)
    (regions : u.regions = s.regions := by simp) (cbResSet : u.cbResSet = s.cbResSet := by simp) :
    Makes .none s (.next u) := .next (.kept mem answers regions cbResSet)

/-- Accesses that are answered together, or else refused. -/
theorem makes_orFault {w : Accesses} {c : Bool} {u : State} (hc : s.neverRefuses = true → c = true)
    (h : MemFrame w s u) : Makes w s (if c then .next u else .fault .memFault) := by
  cases c with
  | true => exact .next h
  | false => exact .fault (Bool.eq_false_iff.mpr fun hs => Bool.noConfusion (hc hs))

theorem makes_withByteAt {a : Word} {k : Byte → State → State} (h : ∀ v u, MemFrame .none u (k v u)) :
    Makes ⟨[a], []⟩ s (s.withByteAt a k) := by
  rw [State.withByteAt_eq]
  exact makes_orFault (State.canRead_of_neverRefuses · a) ((MemFrame.accessed s [a]).trans_kept (h _ _))

theorem makes_storeThen {a : Word} {v : Byte} {k : State → State} (h : ∀ u, MemFrame .none u (k u)) :
    Makes ⟨[], [a]⟩ s (s.storeThen a v k) := by
  rw [State.storeThen_eq]
  exact makes_orFault (State.canWrite_of_neverRefuses · a) ((MemFrame.written s a v).trans_kept (h _))

theorem makes_modifyByteAt {a : Word} {g : Byte → Byte} {k : Byte → State → State}
    (h : ∀ v u, MemFrame .none u (k v u)) : Makes ⟨[a], [a]⟩ s (s.modifyByteAt a g k) := by
  rw [State.modifyByteAt_eq]
  exact makes_orFault (State.canModify_of_neverRefuses · a)
    (((MemFrame.accessed s [a]).trans (.written _ a _)).trans_kept (h _ _))

theorem makes_push (v : Word) {u : State} (h : MemFrame .none (pushed s v) u) :
    Makes s.pushes s (if s.canPush then .next u else .fault .memFault) :=
  makes_orFault State.canPush_of_neverRefuses ((MemFrame.pushed s v).trans_kept h)

theorem makes_pop {u : State} (h : MemFrame .none (s.accessed [s.sp, s.sp + 1]) u) :
    Makes s.pops s (if s.canPop then .next u else .fault .memFault) :=
  makes_orFault State.canPop_of_neverRefuses ((MemFrame.accessed s _).trans_kept h)

/-- Two branches, of which the second makes no access. -/
theorem makes_ite {c : Prop} [Decidable c] {w : Accesses} {x y : Res} (hx : Makes w s x) (hy : Makes .none s y) :
    Makes (w.onlyIf c) s (if c then x else y) := by
  by_cases h : c
  · rwa [Accesses.onlyIf_pos h, if_pos h]
  · rwa [Accesses.onlyIf_neg h, if_neg h]

theorem makes_ite_none {c : Prop} [Decidable c] {x y : Res} (hx : Makes .none s x) (hy : Makes .none s y) :
    Makes .none s (if c then x else y) := by split <;> assumption

/-- RES and SET when CB_RES_SET is `implemented`; the illegal-opcode handler makes no access. -/
theorem makes_ifImplemented {w : Accesses} {x : Res} (op2 : Byte) (h : Makes w s x) :
    Makes (w.onlyIf (s.cbResSet = .implemented)) s (ifImplemented op2 s x) := by
  cases hs : s.cbResSet with
  | illegal => rw [ifImplemented_illegal hs, Accesses.onlyIf_neg nofun]; exact makes_kept
  | implemented => rwa [ifImplemented_implemented hs, Accesses.onlyIf_pos rfl]

theorem makes_ifImplemented_none {x : Res} (op2 : Byte) (h : Makes .none s x) :
    Makes .none s (ifImplemented op2 s x) := by
  have h' := makes_ifImplemented op2 h
  rwa [Accesses.onlyIf_none] at h'

end

/-! ### The meanings -/

section
variable (s : State)

theorem ldAAt_makes (a : Word) (row : CostRow) : Makes ⟨[a], []⟩ s (ldAAt a row s) := makes_withByteAt fun _ _ => .kept

theorem ldAAtHlStep_makes (step : Word) : Makes ⟨[s.hl], []⟩ s (ldAAtHlStep step s) :=
  makes_withByteAt fun _ _ => .kept

theorem ldAtA_makes (a : Word) (row : CostRow) : Makes ⟨[], [a]⟩ s (ldAtA a row s) := makes_storeThen fun _ => .kept

theorem ldAbsSp_makes (nn : Word) : Makes ⟨[], [nn, nn + 1]⟩ s (ldAbsSp nn s) := by
  rw [ldAbsSp_eq]
  refine makes_orFault (fun h => ?_)
    (((MemFrame.written s nn (loByte s.sp)).trans (.written _ (nn + 1) (hiByte s.sp))).trans_kept .kept)
  rw [State.canWrite_of_neverRefuses h, State.canWrite_of_neverRefuses h]; rfl

theorem callTo_makes (target : Word) (row : CostRow) : Makes s.pushes s (callTo target row s) := by
  rw [callTo_eq]; exact makes_push s.pc .kept

theorem returnWith_makes (row : CostRow) {k : State → State} (h : ∀ u, MemFrame .none u (k u)) :
    Makes s.pops s (returnWith row k s) := by
  rw [returnWith_eq]
  have popped (u : State) : MemFrame .none u ((u.setSp (s.sp + 2)).setPc s.stackTop) := .kept
  exact makes_pop (((popped _).trans_kept (h _)).trans_kept .kept)

theorem returnEnable_makes : Makes s.pops s (returnEnable s) := returnWith_makes s .reti fun _ => .kept

theorem pushPair_makes (p : Rp2) : Makes s.pushes s (pushPair p s) := by
  rw [pushPair_eq]; exact makes_push (s.rp2 p) .kept

theorem popPair_makes (p : Rp2) : Makes s.pops s (popPair p s) := by
  rw [popPair_eq]; exact makes_pop .kept

theorem shiftReg_makes (op : ShiftOp) (r : R8) : Makes .none s (shiftReg op r s) := makes_kept

theorem shiftAtHl_makes (op : ShiftOp) : Makes s.modifiesAtHl s (shiftAtHl op s) :=
  makes_modifyByteAt fun _ _ => .kept

theorem bitReg_makes (b : Fin 8) (r : R8) : Makes .none s (bitReg b r s) := makes_kept

theorem bitAtHl_makes (b : Fin 8) : Makes ⟨[s.hl], []⟩ s (bitAtHl b s) := makes_withByteAt fun _ _ => .kept

theorem resReg_makes (b : Fin 8) (r : R8) : Makes .none s (resReg b r s) :=
  makes_ifImplemented_none _ makes_kept

theorem setReg_makes (b : Fin 8) (r : R8) : Makes .none s (setReg b r s) :=
  makes_ifImplemented_none _ makes_kept

theorem resAtHl_makes (b : Fin 8) : Makes (s.modifiesAtHl.onlyIf (s.cbResSet = .implemented)) s (resAtHl b s) :=
  makes_ifImplemented _ (makes_modifyByteAt fun _ _ => .kept)

theorem setAtHl_makes (b : Fin 8) : Makes (s.modifiesAtHl.onlyIf (s.cbResSet = .implemented)) s (setAtHl b s) :=
  makes_ifImplemented _ (makes_modifyByteAt fun _ _ => .kept)

theorem incMem_makes : Makes s.modifiesAtHl s (incMem s) := makes_modifyByteAt fun _ _ => .kept

theorem decMem_makes : Makes s.modifiesAtHl s (decMem s) := makes_modifyByteAt fun _ _ => .kept

theorem cbDispatch_makes (op2 : Byte) : Makes (accesses (.prefixCb op2) s) s (cbDispatch op2 s) := by
  rw [accesses_prefixCb]
  unfold cbDispatch
  generalize operandOfCode (fieldZ op2) = o
  generalize fieldX op2 = x
  rcases x with _ | _ | _ | x <;> cases o
  · exact shiftReg_makes s _ _
  · exact shiftAtHl_makes s _
  · exact bitReg_makes s _ _
  · exact bitAtHl_makes s _
  · exact resReg_makes s _ _
  · exact resAtHl_makes s _
  · exact setReg_makes s _ _
  · exact setAtHl_makes s _

end

/-- Each instruction makes the accesses of its row. -/
theorem exec_makes (i : Instr) (s : State) : Makes (accesses i s) s (exec i s) := by
  induction i using Instr.byShape with
  | nop | rlca | rrca | rla | rra | daa | cpl | scf | ccf | halt | di | ei | jpHl | ldSpHl
  | jrE _ | jpNn _ | addSpE _ | ldHlSpE _
  | illegalD3 | illegalDB | illegalDD | illegalE3 | illegalE4 | illegalEB | illegalEC | illegalED | illegalF4
  | illegalFC | illegalFD => exact makes_kept rfl rfl rfl rfl
  | ldRpNn p nn => rw [exec_ldRpNn, accesses_ldRpNn]; exact makes_kept
  | ldRN dst n => rw [exec_ldRN, accesses_ldRN]; exact makes_kept
  | ldRR dst src => rw [exec_ldRR, accesses_ldRR]; exact makes_kept
  | aluN op n => rw [exec_aluN, accesses_aluN]; exact makes_kept
  | aluR op r => rw [exec_aluR, accesses_aluR]; exact makes_kept
  | incR r => rw [exec_incR, accesses_incR]; exact makes_kept
  | decR r => rw [exec_decR, accesses_decR]; exact makes_kept
  | incRp p => rw [exec_incRp, accesses_incRp]; exact makes_kept
  | decRp p => rw [exec_decRp, accesses_decRp]; exact makes_kept
  | addHlRp p => rw [exec_addHlRp, accesses_addHlRp]; exact makes_kept
  | djnzE e => exact makes_ite_none makes_kept makes_kept
  | jrIf cc e => rw [exec_jrIf, accesses_jrIf]; exact makes_ite_none makes_kept makes_kept
  | jpIf cc nn => rw [exec_jpIf, accesses_jpIf]; exact makes_ite_none makes_kept makes_kept
  | callIf cc nn => rw [exec_callIf, accesses_callIf]; exact makes_ite (callTo_makes s _ _) makes_kept
  | retIf cc =>
    rw [exec_retIf, accesses_retIf]; exact makes_ite (returnWith_makes s _ fun _ => .kept) makes_kept
  | callNn nn => exact callTo_makes s _ _
  | rst y => rw [exec_rst, accesses_rst]; exact callTo_makes s _ _
  | ret => exact returnWith_makes s _ fun _ => .kept
  | reti => exact returnEnable_makes s
  | push p => rw [exec_push, accesses_push]; exact pushPair_makes s p
  | pop p => rw [exec_pop, accesses_pop]; exact popPair_makes s p
  | ldRAtHl dst => rw [exec_ldRAtHl, accesses_ldRAtHl]; exact makes_withByteAt fun _ _ => .kept
  | aluAtHl op => rw [exec_aluAtHl, accesses_aluAtHl]; exact makes_withByteAt fun _ _ => .kept
  | ldAAtBc | ldAAtDe | ldAAtC | ldhAAtN _ | ldAAtNn _ => exact ldAAt_makes s _ _
  | ldAAtHlInc | ldAAtHlDec => exact ldAAtHlStep_makes s _
  | ldAtBcA | ldAtDeA | ldAtCA | ldhAtNA _ | ldAtNnA _ => exact ldAtA_makes s _ _
  | ldAtHlN _ | ldAtHlIncA | ldAtHlDecA => exact makes_storeThen fun _ => .kept
  | ldAtHlR src => rw [exec_ldAtHlR, accesses_ldAtHlR]; exact makes_storeThen fun _ => .kept
  | ldAtNnSp nn => exact ldAbsSp_makes s nn
  | incAtHl => exact incMem_makes s
  | decAtHl => exact decMem_makes s
  | prefixCb opcode2 => exact cbDispatch_makes s opcode2
  | shiftR op r => rw [exec_shiftR, accesses_shiftR]; exact shiftReg_makes s op r
  | shiftAtHl op => rw [exec_shiftAtHl, accesses_shiftAtHl]; exact shiftAtHl_makes s op
  | bitR b r => rw [exec_bitR, accesses_bitR]; exact bitReg_makes s b r
  | bitAtHl b => rw [exec_bitAtHl, accesses_bitAtHl]; exact bitAtHl_makes s b
  | resR b r => rw [exec_resR, accesses_resR]; exact resReg_makes s b r
  | resAtHl b => rw [exec_resAtHl, accesses_resAtHl]; exact resAtHl_makes s b
  | setR b r => rw [exec_setR, accesses_setR]; exact setReg_makes s b r
  | setAtHl b => rw [exec_setAtHl, accesses_setAtHl]; exact setAtHl_makes s b

/-! ### What is read off -/

/-- Settles O56: what the accesses of an instruction's row leave of MEM. -/
theorem memoryFrame : Obligations.MemoryFrame := by
  intro i s t h
  have makes := exec_makes i s
  rw [h] at makes
  obtain ⟨bytes, ram, answers, regions, cbResSet⟩ := makes
  exact ⟨bytes, ram, answers, regions, cbResSet⟩

/-- A fetch is refused by no MEM that never refuses. -/
theorem State.fetch_of_neverRefuses {s : State} (h : s.neverRefuses = true) : ∃ got, s.fetch = some got :=
  have answered := State.canRead_of_neverRefuses h
  ⟨_, State.fetch_answered (answered _) (fun _ => answered _) (fun _ => answered _)⟩

/-- A step answers a next state, or the core is not held and its fetch or its instruction meets a refusal. -/
theorem step_next_or_memFault (s : State) :
    (∃ t, step s = .next t) ∨
      (step s = .fault .memFault ∧ s.neverRefuses = false ∧ s.haltedOrStopped = false) := by
  cases held : s.haltedOrStopped with
  | true => exact .inl ⟨s, step_held held⟩
  | false =>
    cases fetched : s.fetch with
    | none =>
      refine .inr ⟨step_of_fetch_none held fetched, Bool.eq_false_iff.mpr fun never => ?_, rfl⟩
      obtain ⟨got, answered⟩ := State.fetch_of_neverRefuses never
      rw [fetched] at answered; cases answered
    | some got =>
      obtain ⟨k, hk⟩ := State.fetch_after fetched
      have makes := exec_makes got.instr (got.after.advance got.length)
      rw [step_of_fetch held fetched]
      generalize exec got.instr (got.after.advance got.length) = x at makes ⊢
      cases makes with
      | next _ => exact .inl ⟨_, rfl⟩
      | fault refuses =>
        refine .inr ⟨rfl, Bool.eq_false_iff.mpr fun never => ?_, rfl⟩
        have after : (got.after.advance got.length).neverRefuses = true := by
          rw [hk]; exact State.neverRefuses_accessed k never
        rw [refuses] at after; cases after

/-- Settles O13: of the two outcomes a step has, the fault needs a MEM that may refuse. -/
theorem faultsOnlyFromMemory : Obligations.FaultsOnlyFromMemory := by
  intro s
  rcases step_next_or_memFault s with ⟨t, next⟩ | ⟨fault, refuses, running⟩
  · rw [next]; exact ⟨fun _ => ⟨t, rfl⟩, nofun, nofun⟩
  · rw [fault, refuses]
    refine ⟨nofun, fun x hx => ?_, nofun⟩
    cases hx; exact ⟨rfl, rfl, running⟩

end Sys2Proof.Machine
end

section
/-! Decoding and encoding are inverse to each other (spec/30_encoding.md R60 to R69). -/

namespace Sys2Proof

/-! ### Decoding what was encoded -/

/-- An operand word is joined from its own halves, so it may be read off with the joined word in its place. -/
theorem decode_encode_of_joined {form : Word → Instr} {nn : Word} {rest : List Byte}
    (h : decode (encode (form nn) ++ rest) = .instr (form (joinBytes (hiByte nn) (loByte nn))) rest) :
    decode (encode (form nn) ++ rest) = .instr (form nn) rest := by
  rwa [joinBytes_halves] at h

/-- Settles O1, by the shape of the instruction and the codes of its operands. -/
theorem decodeOfEncode : Obligations.DecodeOfEncode := by
  intro i rest wf
  induction i using Instr.byShape with
  | prefixCb opcode2 => cases wf
  | ldAtNnSp _ | jpNn _ | callNn _ | ldAtNnA _ | ldAAtNn _ => exact decode_encode_of_joined rfl
  | ldRpNn p nn => cases p <;> exact decode_encode_of_joined rfl
  | jpIf cc nn | callIf cc nn => cases cc <;> exact decode_encode_of_joined rfl
  | djnzE _ | jrE _ | ldAtHlN _ | ldhAtNA _ | ldhAAtN _ | addSpE _ | ldHlSpE _
  | nop | ldAtBcA | ldAAtBc | ldAtDeA | ldAAtDe | ldAtHlIncA | ldAAtHlInc | ldAtHlDecA | ldAAtHlDec | ldAtCA | ldAAtC
  | ldSpHl | incAtHl | decAtHl | rlca | rrca | rla | rra | daa | cpl | scf | ccf | halt | di | ei | ret | reti | jpHl
  | illegalD3 | illegalDB | illegalDD | illegalE3 | illegalE4 | illegalEB | illegalEC | illegalED | illegalF4
  | illegalFC | illegalFD => rfl
  | jrIf cc e => cases cc <;> rfl
  | retIf cc => cases cc <;> rfl
  | incRp p | decRp p | addHlRp p | push p | pop p => cases p <;> rfl
  | ldRN r n => cases r <;> rfl
  | incR r | decR r | ldRAtHl r | ldAtHlR r => cases r <;> rfl
  | ldRR dst src => cases dst <;> cases src <;> rfl
  | aluN op n => cases op <;> rfl
  | aluAtHl op | shiftAtHl op => cases op <;> rfl
  | aluR op r | shiftR op r => cases op <;> cases r <;> rfl
  | rst b | bitAtHl b | resAtHl b | setAtHl b => fin_cases b <;> rfl
  | bitR b r | resR b r | setR b r => fin_cases b <;> cases r <;> rfl

/-- A word is checked by encoding the instruction it should give. -/
theorem decode_of_encode_eq {i : Instr} {bytes : List Byte} (wf : i.wellFormed = true) (h : encode i = bytes) :
    decode bytes = .instr i [] := by
  have decoded := decodeOfEncode i [] wf
  rwa [List.append_nil, h] at decoded

/-- Settles O3: the words are the encodings of the instructions. -/
theorem knownWordsDecode : Obligations.KnownWordsDecode := by
  unfold Obligations.KnownWordsDecode
  and_intros <;> exact decode_of_encode_eq rfl rfl

/-! ### Encoding what was decoded -/

/-- `i` is an instruction the machine can fetch, and its bytes are `bytes`. -/
def Instr.HasBytes (i : Instr) (bytes : List Byte) : Prop := i.wellFormed = true ∧ encode i = bytes

/-- The opcode bytes a byte operand `n` or `e` follows (R65). -/
def byteOperandOpcodes : List Byte :=
  [0x06, 0x0E, 0x10, 0x16, 0x18, 0x1E, 0x20, 0x26, 0x28, 0x2E, 0x30, 0x36, 0x38, 0x3E,
    0xC6, 0xCE, 0xD6, 0xDE, 0xE0, 0xE6, 0xE8, 0xEE, 0xF0, 0xF6, 0xF8, 0xFE]

/-- The opcode bytes an operand word `nn` follows (R65). -/
def wordOperandOpcodes : List Byte :=
  [0x01, 0x08, 0x11, 0x21, 0x31, 0xC2, 0xC3, 0xC4, 0xCA, 0xCC, 0xCD, 0xD2, 0xD4, 0xDA, 0xDC, 0xEA, 0xFA]

theorem instrLength_eq_two_iff (op : Byte) : instrLength op = 2 ↔ op = 0xCB#8 ∨ op ∈ byteOperandOpcodes := by
  revert op; decide

theorem instrLength_eq_three_iff (op : Byte) : instrLength op = 3 ↔ op ∈ wordOperandOpcodes := by
  revert op; decide

theorem decodeBytes_hasBytes_of_length_one {op : Byte} (h : instrLength op = 1) :
    (decodeBytes op 0 0).HasBytes [op] := by
  unfold Instr.HasBytes; revert op; decide

/-- Every slot of the CB map (R69). -/
theorem decodeCb_hasBytes (op2 : Byte) : (decodeCb op2).HasBytes [0xCB, op2] := by
  unfold Instr.HasBytes; revert op2; decide

theorem decodeBytes_hasBytes_of_byteOperand {op : Byte} (h : op ∈ byteOperandOpcodes) (n : Byte) :
    (decodeBytes op n 0).HasBytes [op, n] := by
  unfold byteOperandOpcodes at h
  fin_cases h <;> exact ⟨rfl, rfl⟩

/-- An operand word gives back the two bytes it was joined from. -/
theorem Instr.hasBytes_of_joined {i : Instr} {op lo hi : Byte} (wf : i.wellFormed = true)
    (h : encode i = [op, loByte (joinBytes hi lo), hiByte (joinBytes hi lo)]) : i.HasBytes [op, lo, hi] :=
  ⟨wf, by rw [h, loByte_joinBytes, hiByte_joinBytes]⟩

theorem decodeBytes_hasBytes_of_wordOperand {op : Byte} (h : op ∈ wordOperandOpcodes) (lo hi : Byte) :
    (decodeBytes op lo hi).HasBytes [op, lo, hi] := by
  unfold wordOperandOpcodes at h
  fin_cases h <;> exact Instr.hasBytes_of_joined rfl rfl

/-- What three bytes decode to has as many of them as the first tells. -/
theorem decodeBytes_hasBytes (b0 b1 b2 : Byte) :
    (decodeBytes b0 b1 b2).HasBytes ([b0, b1, b2].take (instrLength b0)) := by
  rcases instrLength_cases b0 with one | two | three
  · rw [one, decodeBytes_of_length_one one]
    exact decodeBytes_hasBytes_of_length_one one
  · rw [two, decodeBytes_of_length_two two]
    rcases (instrLength_eq_two_iff b0).mp two with rfl | operand
    · exact decodeCb_hasBytes b1
    · exact decodeBytes_hasBytes_of_byteOperand operand b1
  · rw [three]
    exact decodeBytes_hasBytes_of_wordOperand ((instrLength_eq_three_iff b0).mp three) b1 b2

/-- Settles O2, by the length the first byte tells. -/
theorem encodeOfDecode : Obligations.EncodeOfDecode := by
  intro b0 b1 b2
  obtain ⟨wf, bytes⟩ := decodeBytes_hasBytes b0 b1 b2
  exact ⟨wf, bytes, by rcases instrLength_cases b0 with h | h | h <;> omega⟩

end Sys2Proof
end

section
/-! The dispatch loop (spec/40_dispatch.md): a held core (R85), a step as `exec` of the decoded instruction (R80 to
R82), PREFIX CB (R83) and the illegal slots (R84). -/

namespace Sys2Proof.Machine

/-! ### A step of a core that is not held -/

section
variable {s : State}

/-- A step whose needed bytes are all answered. -/
theorem step_of_answered (held : s.haltedOrStopped = false) (h0 : s.canRead s.pc = true)
    (h1 : 2 ≤ instrLength (s.readValue s.pc) → s.canRead (s.pc + 1) = true)
    (h2 : instrLength (s.readValue s.pc) = 3 → s.canRead (s.pc + 2) = true) :
    step s =
      accounted (exec (decodeBytes (s.readValue s.pc) (s.readValue (s.pc + 1)) (s.readValue (s.pc + 2)))
        ((s.accessed (s.fetchAddresses (instrLength (s.readValue s.pc)))).advance (instrLength (s.readValue s.pc)))) :=
  step_of_fetch held (State.fetch_answered h0 h1 h2)

/-- A step at a one-byte instruction. -/
theorem step_of_length_one {op : Byte} (held : s.haltedOrStopped = false) (h0 : s.canRead s.pc = true)
    (hop : s.readValue s.pc = op) (len : instrLength op = 1) :
    step s = accounted (exec (decodeBytes op 0 0) { s.accessed [s.pc] with pc := s.pc + 1, r := s.r + 1 }) := by
  subst hop
  rw [step_of_answered held h0 (by omega) (by omega), len, decodeBytes_of_length_one len]
  rfl

/-- A step at PREFIX CB runs the slot of the second byte. -/
theorem step_of_prefix (held : s.haltedOrStopped = false) (h0 : s.canRead s.pc = true)
    (h1 : s.canRead (s.pc + 1) = true) (hop : s.readValue s.pc = 0xCB#8) :
    step s = accounted (exec (decodeCb (s.readValue (s.pc + 1)))
      { s.accessed [s.pc, s.pc + 1] with pc := s.pc + 2, r := s.r + 1 }) := by
  have len : instrLength (s.readValue s.pc) = 2 := by rw [hop]; rfl
  rw [step_of_answered held h0 (fun _ => h1) (by omega), len, hop]
  rfl

/-- A step at PREFIX CB, the second byte refused. -/
theorem step_of_prefix_refused (held : s.haltedOrStopped = false) (hop : s.readValue s.pc = 0xCB#8)
    (h1 : s.canRead (s.pc + 1) = false) : step s = .fault .memFault :=
  step_of_fetch_none held (State.fetch_refused_second (by rw [hop]; decide) h1)

end

theorem instrLength_pos (op : Byte) : 0 < instrLength op := by
  rcases instrLength_cases op with h | h | h <;> omega

/-- Settles O10: the decoder and the fetch read the same instruction off the bytes at PC. -/
theorem stepRunsDecodedInstruction : Obligations.StepRunsDecodedInstruction := by
  intro s i rest held decoded answered
  have hi : decodeBytes (s.readValue s.pc) (s.readValue (s.pc + 1)) (s.readValue (s.pc + 2)) = i := by
    rw [decode_cons] at decoded; cases decoded; rfl
  have h0 : s.canRead s.pc = true := by
    have first := answered 0 (instrLength_pos _)
    rwa [BitVec.add_zero] at first
  show step s = _
  rw [step_of_answered held h0 (answered 1) (fun three => answered 2 (by omega)), hi]
  rfl

/-! ### A held core -/

section
variable {s : State} (held : s.haltedOrStopped = true)
include held

theorem run_held (n : Nat) : Host.Core.run Sys2Proof.core n s = .next s := by
  induction n with
  | zero => rfl
  | succ n ih => exact (run_succ_of_step n (step_held held)).trans ih

theorem execute_held (n : Nat) : execute n s = .next s := by
  cases n with
  | zero => rfl
  | succ n => exact if_pos held

end

/-- An interrupt entry on a core that is not stopped leaves it running. -/
theorem State.interruptEntry_running {s t : State} {v : InterruptVector} (running : s.stop = false)
    (h : s.interruptEntry v = .next t) : t.haltedOrStopped = false := by
  rw [State.interruptEntry_eq, running] at h
  cases push : s.canPush with
  | true => rw [push] at h; cases h; simp [State.haltedOrStopped]
  | false => rw [push] at h; cases h

/-- Settles O9: the loops by the held step, the ways out by what each writes to the two hold bits. -/
theorem heldCoreChangesNothing : Obligations.HeldCoreChangesNothing := fun s held =>
  ⟨step_held held, run_held held, execute_held held, fun _ => rfl, fun _ _ => State.interruptEntry_running,
    Bool.or_false s.halt⟩

/-! ### PREFIX CB -/

/-- A CB slot has run: PC and SP are as they were, and the cost is that of a CB slot or of the illegal-opcode
handler. -/
structure CbSlotDone (s t : State) : Prop where
  pc : t.pc = s.pc
  sp : t.sp = s.sp
  cost : t.m = 2 ∨ t.m = 3 ∨ t.m = 4 ∨ (t.m = 0 ∧ t.stop = true)

/-- An outcome that is a next state after a CB slot. -/
def CompletesCbSlot (s : State) (x : Res) : Prop := ∃ t, x = .next t ∧ CbSlotDone s t

section
variable {s : State}

theorem completesCbSlot_charge {u : State} {row : CostRow} (pc : u.pc = s.pc := by simp)
    (sp : u.sp = s.sp := by simp) (cost : cycles row = 2 ∨ cycles row = 3 ∨ cycles row = 4 := by decide) :
    CompletesCbSlot s (.next (u.charge row)) :=
  ⟨_, rfl, pc, sp, cost.imp_right (Or.imp_right .inl)⟩

theorem completesCbSlot_ifImplemented (op2 : Byte) {x : Res} (h : CompletesCbSlot s x) :
    CompletesCbSlot s (ifImplemented op2 s x) := by
  cases hs : s.cbResSet with
  | illegal => rw [ifImplemented_illegal hs]; exact ⟨_, rfl, rfl, rfl, .inr (.inr (.inr ⟨rfl, rfl⟩))⟩
  | implemented => rwa [ifImplemented_implemented hs]

theorem completesCbSlot_modifyByteAt {a : Word} {g : Byte → Byte} {k : Byte → State → State}
    (answers : s.canModify a = true)
    (h : ∀ v u, u.pc = s.pc → u.sp = s.sp → CompletesCbSlot s (.next (k v u))) :
    CompletesCbSlot s (s.modifyByteAt a g k) := by
  rw [State.modifyByteAt_eq, if_pos answers]; exact h _ _ rfl rfl

/-- Every slot of the CB map completes where MEM answers at HL. -/
theorem cbDispatch_completes (op2 : Byte) (answers : s.canModify s.hl = true) :
    CompletesCbSlot s (cbDispatch op2 s) := by
  have reads : s.canRead s.hl = true := (Bool.and_eq_true_iff.mp answers).1
  unfold cbDispatch
  generalize operandOfCode (fieldZ op2) = o
  generalize fieldX op2 = x
  rcases x with _ | _ | _ | x <;> cases o
  case zero.reg => exact completesCbSlot_charge
  case zero.atHl => exact completesCbSlot_modifyByteAt answers fun _ _ pc sp => completesCbSlot_charge pc sp
  case succ.zero.reg => exact completesCbSlot_charge
  case succ.zero.atHl =>
    show CompletesCbSlot s (s.withByteAt s.hl _)
    rw [State.withByteAt_eq, if_pos reads]; exact completesCbSlot_charge
  case succ.succ.zero.reg | succ.succ.succ.reg =>
    exact completesCbSlot_ifImplemented _ completesCbSlot_charge
  case succ.succ.zero.atHl | succ.succ.succ.atHl =>
    exact completesCbSlot_ifImplemented _
      (completesCbSlot_modifyByteAt answers fun _ _ pc sp => completesCbSlot_charge pc sp)

end

/-- PREFIX CB with a second byte runs what the CB map gives that byte. -/
theorem exec_prefixCb (op2 : Byte) (s : State) : exec (.prefixCb op2) s = exec (decodeCb op2) s :=
  (exec_decodeCb op2 s).symm

/-- Settles O4: the slot completes by its own meaning, and R is moved by the step alone. -/
theorem prefixRunsCbSlot : Obligations.PrefixRunsCbSlot := by
  intro op2 s
  refine ⟨exec_prefixCb op2 s, fun answers => ?_, fun held h0 h1 hop hop2 => ?_, fun held _ hop h1 => ?_⟩
  · obtain ⟨t, ht, pc, sp, cost⟩ := cbDispatch_completes op2 answers
    obtain ⟨-, -, r⟩ := exec_totals (i := .prefixCb op2) ht
    exact ⟨t, ht, (exec_decodeCb op2 s).trans ht, pc, sp, r, cost⟩
  · subst hop2; exact step_of_prefix held h0 h1 hop
  · exact step_of_prefix_refused held hop h1

/-! ### The illegal slots -/

/-- The byte of a CB slot is told by its fields, as RES and SET report it. -/
theorem opcodeOf_fields (op2 : Byte) :
    opcodeOf (fieldX op2) (Fin.ofNat 8 (fieldY op2)).val (operandOfCode (fieldZ op2)).code = op2 := by
  revert op2; decide

/-- The fields of a byte of 0x80 or more put it in the RES or the SET quarter of the CB map. -/
theorem fieldX_of_ge {op2 : Byte} (h : 0x80 ≤ op2.toNat) : fieldX op2 = 2 ∨ fieldX op2 = 3 := by
  have := op2.isLt
  unfold fieldX; omega

theorem ifImplemented_raises {byte op2 : Byte} {s : State} (h : byte = op2) (setting : s.cbResSet = .illegal)
    (effect : Res) : ifImplemented byte s effect = .next (s.raiseIllegal (s.pc - 2) op2) := by
  rw [ifImplemented_illegal setting, h]

/-- RES and SET raise IllegalOpcode with their own byte unless they are implemented. -/
theorem cbDispatch_illegal {op2 : Byte} {s : State} (h : 0x80 ≤ op2.toNat) (setting : s.cbResSet = .illegal) :
    cbDispatch op2 s = .next (s.raiseIllegal (s.pc - 2) op2) := by
  have fields := opcodeOf_fields op2
  unfold cbDispatch
  generalize operandOfCode (fieldZ op2) = o at *
  rcases fieldX_of_ge h with hres | hset
  · rw [hres] at fields ⊢
    cases o <;> exact ifImplemented_raises fields setting _
  · rw [hset] at fields ⊢
    cases o <;> exact ifImplemented_raises fields setting _

/-- An illegal primary slot is a one-byte instruction whose meaning is the handler. -/
structure IsIllegalSlot (i : Instr) (byte : Byte) : Prop where
  encoded : encode i = [byte]
  length : instrLength byte = 1
  decoded : decodeBytes byte 0 0 = i
  handler : ∀ s, exec i s = .next (s.raiseIllegal (s.pc - 1) byte)

theorem IsIllegalSlot.step_taken {i : Instr} {byte : Byte} (slot : IsIllegalSlot i byte) {s : State}
    (held : s.haltedOrStopped = false) (h0 : s.canRead s.pc = true) (hop : s.readValue s.pc = byte) :
    step s = .next { s.accessed [s.pc] with
      pc := s.pc + 1, r := s.r + 1, stop := true, m := 0, t := 0, reports := s.reports ++ [⟨s.pc, byte⟩] } := by
  rw [step_of_length_one held h0 hop slot.length, slot.decoded, slot.handler, BitVec.add_sub_cancel]
  rfl

theorem step_illegal_cb {s : State} {op2 : Byte} (held : s.haltedOrStopped = false) (h0 : s.canRead s.pc = true)
    (h1 : s.canRead (s.pc + 1) = true) (hop : s.readValue s.pc = 0xCB#8) (hop2 : s.readValue (s.pc + 1) = op2)
    (h : 0x80 ≤ op2.toNat) (setting : s.cbResSet = .illegal) :
    step s = .next { s.accessed [s.pc, s.pc + 1] with
      pc := s.pc + 2, r := s.r + 1, stop := true, m := 0, t := 0, reports := s.reports ++ [⟨s.pc, op2⟩] } := by
  rw [step_of_prefix held h0 h1 hop, hop2, exec_decodeCb, cbDispatch_illegal h, BitVec.add_sub_cancel]
  · rfl
  · exact setting

/-- Settles O51: each slot of the list is illegal, and so is the upper half of the CB map by default. -/
theorem illegalOpcodeTaken : Obligations.IllegalOpcodeTaken := by
  refine ⟨fun s i byte listed => ?_, fun s op2 => step_illegal_cb⟩
  have slot : IsIllegalSlot i byte := by
    fin_cases listed <;> exact ⟨rfl, rfl, rfl, fun _ => rfl⟩
  exact ⟨slot.encoded, slot.handler s, slot.step_taken⟩

end Sys2Proof.Machine
end

section
/-! 8-bit arithmetic and logic (spec/41_alu8.md R100 to R132). -/

namespace Sys2Proof

/-! ### The opcodes of the operand forms -/

/-- The code of an accumulator operation in the opcodes of its three forms (R100). -/
def AluOp.code : AluOp → Nat
  | .add => 0 | .adc => 1 | .sub => 2 | .sbc => 3 | .and => 4 | .xor => 5 | .or => 6 | .cp => 7

theorem encode_aluR (op : AluOp) (r : R8) : encode (Instr.aluR op r) = [opcodeOf 2 op.code r.code] := by
  cases op <;> cases r <;> rfl

theorem encode_aluAtHl (op : AluOp) : encode (Instr.aluAtHl op) = [opcodeOf 2 op.code 6] := by
  cases op <;> rfl

theorem encode_aluN (op : AluOp) (n : Byte) : encode (Instr.aluN op n) = [opcodeOf 3 op.code 6, n] := by
  cases op <;> rfl

theorem encode_incDecR (up : Bool) (r : R8) :
    encode (if up then Instr.incR r else Instr.decR r) = [opcodeOf 0 r.code (if up then 4 else 5)] := by
  cases up <;> cases r <;> rfl

theorem encode_incDecAtHl (up : Bool) :
    encode (if up then .incAtHl else .decAtHl) = [opcodeOf 0 6 (if up then 4 else 5)] := by
  cases up <;> rfl

namespace Machine

/-! ### The eight accumulator operations (R100) -/

/-- Every accumulator operation but CP writes its result to A. -/
theorem State.aluWith_of_alu {s : State} {op : AluOp} {b : Byte} {x : Result8} (writes : op ≠ .cp)
    (h : alu op s.a b s.flagC = x) :
    s.aluWith op b = { s with a := x.res, f := flagByte x.z x.n x.h x.c } := by
  subst h
  cases op with
  | cp => exact absurd rfl writes
  | _ => rfl

theorem State.aluWith_cp {s : State} {b : Byte} {x : Result8} (h : alu .cp s.a b s.flagC = x) :
    s.aluWith .cp b = { s with f := flagByte x.z x.n x.h x.c } := by subst h; rfl

/-- An accumulator operation does not see the answers MEM has left. -/
theorem State.accessed_aluWith (s : State) (k : List Word) (op : AluOp) (b : Byte) :
    (s.accessed k).aluWith op b = (s.aluWith op b).accessed k := by cases op <;> rfl

/-- The encodings and the outcomes of the three forms of an operation that makes A `res b` and F `flags b` of a source
byte `b`. -/
def AluForms (s : State) (r : R8) (n : Byte) (op : AluOp) (code : Nat) (res flags : Byte → Byte) : Prop :=
  let effect (u : State) (b : Byte) (m : Nat) : State := { u with a := res b, f := flags b, m := m, t := 4 * m }
  encode (Instr.aluR op r) = [opcodeOf 2 code r.code] ∧
  encode (Instr.aluAtHl op) = [opcodeOf 2 code 6] ∧
  encode (Instr.aluN op n) = [opcodeOf 3 code 6, n] ∧
  exec (Instr.aluR op r) s = .next (effect s (s.r8 r) 1) ∧
  exec (Instr.aluN op n) s = .next (effect s n 2) ∧
  (s.canRead s.hl = true →
    exec (Instr.aluAtHl op) s = .next (effect (s.accessed [s.hl]) (s.readValue s.hl) 2)) ∧
  (s.canRead s.hl = false → exec (Instr.aluAtHl op) s = .fault .memFault)

/-- What an operation does with a source byte decides all three of its forms. -/
theorem aluForms_of_aluWith {s : State} {op : AluOp} {code : Nat} {res flags : Byte → Byte} (r : R8) (n : Byte)
    (hcode : op.code = code) (h : ∀ b, s.aluWith op b = { s with a := res b, f := flags b }) :
    AluForms s r n op code res flags := by
  subst hcode
  refine ⟨encode_aluR op r, encode_aluAtHl op, encode_aluN op n, ?_, ?_, fun reads => ?_, fun refused => ?_⟩
  · rw [exec_aluR, aluReg, h]; rfl
  · rw [exec_aluN, aluImm, h]; rfl
  · rw [exec_aluAtHl, aluAtHl, State.withByteAt_eq, if_pos reads, State.accessed_aluWith, h]; rfl
  · rw [exec_aluAtHl, aluAtHl, State.withByteAt_eq, refused]; rfl

/-- ADD is the sum without a carry-in, ADC the sum with the Carry. -/
theorem alu_addAdc (withCarry : Bool) (a b : Byte) (c : Bool) :
    alu (if withCarry then .adc else .add) a b c = addCarry a b (if withCarry = true ∧ c = true then 1 else 0) := by
  cases withCarry with
  | false => rfl
  | true => cases c <;> rfl

/-- Settles O20: both are the sum with a carry-in, which is 0 for ADD. -/
theorem addAdc : Obligations.AddAdc := by
  intro s r n withCarry
  exact aluForms_of_aluWith r n (by cases withCarry <;> rfl) fun b =>
    State.aluWith_of_alu (by cases withCarry <;> decide) ((alu_addAdc ..).trans (addCarry_eq ..))

/-- Without a borrow-in, the difference is 0 exactly when the operands are equal. -/
theorem subBorrow_zero (a b : Byte) :
    subBorrow a b 0 =
      { res := a - b, z := decide (a = b), n := true
        h := decide (a.toNat % 16 < b.toNat % 16), c := decide (a.toNat < b.toNat) } := by
  have equal : a - b = 0#8 ↔ a = b := sub_eq_zero
  simp [subBorrow_eq, equal]

/-- Settles O21: both are the difference without a borrow-in, which only SUB writes to A. -/
theorem subCp : Obligations.SubCp := by
  intro s r n compare
  cases compare with
  | false => exact aluForms_of_aluWith r n rfl fun b =>
      State.aluWith_of_alu (op := .sub) (by decide) (subBorrow_zero s.a b)
  | true => exact aluForms_of_aluWith r n rfl fun b => State.aluWith_cp (subBorrow_zero s.a b)

/-- Settles O22: the borrow-in is the Carry as a number. -/
theorem sbcBorrowsCarry : Obligations.SbcBorrowsCarry := by
  intro s r n
  have borrow (b : Byte) : alu .sbc s.a b s.flagC = subBorrow s.a b (if s.flagC then 1 else 0) := by
    cases s.flagC <;> rfl
  exact aluForms_of_aluWith r n rfl fun b => State.aluWith_of_alu (by decide) ((borrow b).trans (subBorrow_eq ..))

/-- Settles O23: the three operations differ in the result byte and in H. -/
theorem logicOps : Obligations.LogicOps := by
  rintro s r n op code res (⟨rfl, rfl, rfl⟩ | ⟨rfl, rfl, rfl⟩ | ⟨rfl, rfl, rfl⟩) <;>
    exact aluForms_of_aluWith r n rfl fun b => State.aluWith_of_alu (by decide) rfl

/-! ### Increment and decrement (R125 to R128) -/

/-- The result of INC (`up`) or DEC on a byte. -/
def incDecByte (up : Bool) (v : Byte) (c : Bool) : Result8 := if up then incByte v c else decByte v c

theorem incDecByte_eq (up : Bool) (v : Byte) (c : Bool) :
    incDecByte up v c =
      { res := if up then v + 1#8 else v - 1#8, z := decide ((if up then v + 1#8 else v - 1#8) = 0#8), n := !up
        h := decide (v.toNat % 16 = if up then 15 else 0), c := c } := by
  cases up with
  | false => exact decByte_eq v c
  | true => exact incByte_eq v c

theorem exec_incDecR (up : Bool) (r : R8) (s : State) :
    exec (if up then Instr.incR r else Instr.decR r) s =
      .next (((s.setR8 r (incDecByte up (s.r8 r) s.flagC).res).setResultFlags
        (incDecByte up (s.r8 r) s.flagC)).charge .incDecReg) := by
  cases up with
  | false => exact exec_decR r s
  | true => exact exec_incR r s

theorem exec_incDecAtHl (up : Bool) (s : State) :
    exec (if up then .incAtHl else .decAtHl) s =
      s.modifyByteAt s.hl (fun v => (incDecByte up v s.flagC).res) fun v s' =>
        (s'.setResultFlags (incDecByte up v s.flagC)).charge .incDecMem := by
  cases up <;> rfl

/-- Settles O24: both forms take the result from `incDecByte`, the one at HL as a read-modify-write. -/
theorem incDec8 : Obligations.IncDec8 := by
  intro s r up
  refine ⟨encode_incDecR up r, encode_incDecAtHl up, ?_, fun accepts => ?_, fun refused => ?_⟩
  · rw [exec_incDecR, incDecByte_eq]; rfl
  · rw [exec_incDecAtHl, State.modifyByteAt_eq, if_pos accepts]
    simp only [incDecByte_eq]
    exact ⟨_, rfl, storedAt_of_mem rfl (State.written_storedAt ..), rfl⟩
  · rw [exec_incDecAtHl, State.modifyByteAt_eq, refused]; rfl

/-! ### A and the flags (R129 to R132) -/

/-- Settles O25: the meanings as they stand, the complement as XOR with ones. -/
theorem cplCcfScf : Obligations.CplCcfScf := by
  intro s
  have complement : s.a ^^^ 0xFF#8 = ~~~s.a := BitVec.xor_allOnes
  refine ⟨rfl, rfl, rfl, ?_, rfl, rfl⟩
  rw [← complement]; rfl

/-- The correction of DAA, from whether the high and the low digit are corrected. -/
def daaFix (high low : Bool) : Nat := (if high then 0x60 else 0) + (if low then 6 else 0)

/-- After an addition, the two corrections are one addition modulo 256. -/
theorem add_daaFix (a : Byte) (high low : Bool) :
    (if low then (if high then a + 0x60#8 else a) + 0x06#8 else if high then a + 0x60#8 else a) =
      BitVec.ofNat 8 ((a.toNat + daaFix high low) % 256) := by
  apply BitVec.eq_of_toNat_eq
  have byte : a.toNat % 256 = a.toNat := Nat.mod_eq_of_lt a.isLt
  cases high <;> cases low <;> simp [daaFix, BitVec.toNat_add, byte]

/-- After a subtraction, the two corrections are one subtraction modulo 256. -/
theorem sub_daaFix (a : Byte) (high low : Bool) :
    (if low then (if high then a - 0x60#8 else a) - 0x06#8 else if high then a - 0x60#8 else a) =
      BitVec.ofNat 8 ((a.toNat + 256 - daaFix high low) % 256) := by
  apply BitVec.eq_of_toNat_eq
  cases high <;> cases low <;> simp [daaFix, BitVec.toNat_sub] <;> omega

/-- The high correction leaves the low digit as it was. -/
theorem lowDigit_high (a : Byte) (high : Bool) :
    (if high then a + 0x60#8 else a).toNat % 16 = a.toNat % 16 := by
  cases high with
  | false => rfl
  | true =>
    have sum : (a + 0x60#8).toNat = (a.toNat + 0x60) % 256 := BitVec.toNat_add ..
    rw [if_pos rfl, sum]; omega

theorem ofNat_mod_beq_zero (k : Nat) : (BitVec.ofNat 8 (k % 256) == 0#8) = decide (k % 256 = 0) := by
  rw [beq_eq_decide, decide_eq_decide, ← BitVec.toNat_inj]; simp

/-- DAA over the numbers. -/
theorem daa_eq (a : Byte) (n h c : Bool) :
    daa a n h c =
      let high := if n then c else c || decide (0x99 < a.toNat)
      let low := if n then h else h || decide (9 < a.toNat % 16)
      let res := (if n then a.toNat + 256 - daaFix high low else a.toNat + daaFix high low) % 256
      { res := BitVec.ofNat 8 res, z := decide (res = 0), n := n, h := false, c := high } := by
  cases n with
  | true => simp only [daa, if_true, sub_daaFix, ofNat_mod_beq_zero]
  | false => simp only [daa, Bool.false_eq_true, if_false, gt_iff_lt, lowDigit_high, add_daaFix, ofNat_mod_beq_zero]

end Machine

/-- Settles O26: the two corrections as one, over the numbers. -/
theorem decimalAdjust : Obligations.DecimalAdjust := by
  intro s
  refine ⟨rfl, ?_⟩
  show Machine.decimalAdjust s = _
  rw [Machine.decimalAdjust, Machine.daa_eq]; rfl

end Sys2Proof
end

section
/-! 16-bit arithmetic (spec/42_alu16.md R140 to R146, spec/44_load_store.md R201). -/

namespace Sys2Proof

/-! ### The opcodes of the pair forms -/

/-- The code of a pair in the opcodes of the 16-bit operations (R63). -/
def Rp.code : Rp → Nat
  | .bc => 0 | .de => 1 | .hl => 2 | .sp => 3

theorem Rp.code_of_listed {p : Rp} {code : Nat}
    (h : p = .bc ∧ code = 0 ∨ p = .de ∧ code = 1 ∨ p = .hl ∧ code = 2 ∨ p = .sp ∧ code = 3) : code = p.code := by
  rcases h with ⟨rfl, rfl⟩ | ⟨rfl, rfl⟩ | ⟨rfl, rfl⟩ | ⟨rfl, rfl⟩ <;> rfl

theorem encode_addHlRp (p : Rp) : encode (Instr.addHlRp p) = [BitVec.ofNat 8 (16 * p.code + 9)] := by cases p <;> rfl

theorem encode_incRp (p : Rp) : encode (Instr.incRp p) = [BitVec.ofNat 8 (16 * p.code + 3)] := by cases p <;> rfl

theorem encode_decRp (p : Rp) : encode (Instr.decRp p) = [BitVec.ofNat 8 (16 * p.code + 11)] := by cases p <;> rfl

namespace Machine

/-- A cost leaves every pair as it was. -/
@[simp] theorem State.charge_rp (s : State) (row : CostRow) (p : Rp) : (s.charge row).rp p = s.rp p := by
  cases p <;> rfl

@[simp] theorem State.setHl_hl (s : State) (v : Word) : (s.setHl v).hl = v := joinBytes_halves v

/-! ### ADD HL (R140, R141) -/

/-- Settles O27: HL is read back from the halves of the sum, and of F only Carry is written anew. -/
theorem addHl : Obligations.AddHl := by
  intro s p code listed
  obtain rfl := Rp.code_of_listed listed
  refine ⟨encode_addHlRp p, _, exec_addHlRp p s, ?_, rfl, rfl⟩
  show (s.setHl (s.hl + s.rp p)).hl.toNat = _
  rw [State.setHl_hl]; exact BitVec.toNat_add ..

/-! ### INC and DEC of a pair (R142 to R145) -/

/-- A pair given a new value at the cost of INC and DEC holds that value, and nothing else has changed. -/
theorem setRp_charge_incDecPair (s : State) (p : Rp) (v : Word) :
    ((s.setRp p v).charge .incDecPair).rp p = v ∧
      (s.setRp p v).charge .incDecPair =
        { s.setRp p (((s.setRp p v).charge .incDecPair).rp p) with m := 2, t := 8 } := by
  have read : ((s.setRp p v).charge .incDecPair).rp p = v := by rw [State.charge_rp, State.setRp_rp]
  exact ⟨read, by rw [read]; rfl⟩

/-- Settles O28: DEC adds 65535, which is 1 less modulo 65536. -/
theorem incDec16 : Obligations.IncDec16 := by
  intro s p code listed
  obtain rfl := Rp.code_of_listed listed
  obtain ⟨incRead, incFrame⟩ := setRp_charge_incDecPair s p (s.rp p + 1)
  obtain ⟨decRead, decFrame⟩ := setRp_charge_incDecPair s p (s.rp p - 1)
  refine ⟨encode_incRp p, encode_decRp p, ⟨_, exec_incRp p s, ?_, incFrame⟩, _, exec_decRp p s, ?_, decFrame⟩
  · rw [incRead]; exact BitVec.toNat_add ..
  · rw [decRead, BitVec.toNat_sub, Nat.add_comm]; rfl

/-! ### SP plus a signed byte (R146, R201) -/

/-- Settles O29: both instructions write the same sum, one to SP and one to the halves of HL; both have two bytes. -/
theorem spPlusOffset : Obligations.SpPlusOffset := by
  intro s e
  have sum : ((s.spOffset e).toNat : Int) = ((s.sp.toNat : Int) + e.toInt) % 65536 := sext16_toNat e s.sp
  refine ⟨rfl, rfl, fun held _ opcode refused => ?_, ⟨_, rfl, sum, rfl⟩, _, rfl, ?_, rfl⟩
  · have twoBytes : instrLength (s.readValue s.pc) = 2 := by rcases opcode with h | h <;> rw [h] <;> rfl
    exact step_of_fetch_none held (State.fetch_refused_second twoBytes.ge refused)
  · show ((s.setHl (s.spOffset e)).hl.toNat : Int) = _
    rw [State.setHl_hl, sum]

end Machine

end Sys2Proof
end

section
/-! Rotates, shifts, SWAP, BIT, RES and SET (spec/43_rotate_shift_bit.md R149 to R175). -/

namespace Sys2Proof

/-! ### The bytes of the CB forms -/

theorem encode_shiftR (code : Fin 8) (r : R8) :
    encode (Instr.shiftR (shiftOfCode code.val) r) = [0xCB, opcodeOf 0 code.val r.code] := by
  fin_cases code <;> cases r <;> rfl

theorem encode_shiftAtHl (code : Fin 8) :
    encode (Instr.shiftAtHl (shiftOfCode code.val)) = [0xCB, opcodeOf 0 code.val 6] := by
  fin_cases code <;> rfl

theorem encode_bitR (b : Fin 8) (r : R8) : encode (Instr.bitR b r) = [0xCB, opcodeOf 1 b.val r.code] := by
  fin_cases b <;> cases r <;> rfl

theorem encode_bitAtHl (b : Fin 8) : encode (Instr.bitAtHl b) = [0xCB, opcodeOf 1 b.val 6] := by
  fin_cases b <;> rfl

theorem encode_resSetR (value : Bool) (b : Fin 8) (r : R8) :
    encode (if value then Instr.setR b r else Instr.resR b r) =
      [0xCB, opcodeOf (if value then 3 else 2) b.val r.code] := by
  cases value <;> fin_cases b <;> cases r <;> rfl

theorem encode_resSetAtHl (value : Bool) (b : Fin 8) :
    encode (if value then Instr.setAtHl b else Instr.resAtHl b) =
      [0xCB, opcodeOf (if value then 3 else 2) b.val 6] := by
  cases value <;> fin_cases b <;> rfl

namespace Machine

/-! ### The accumulator rotates (R150 to R153) -/

theorem rotateA_eq (op : ShiftOp) (s : State) :
    rotateA op s = .next { s with
      a := (shift op s.a s.flagC).1, f := flagByte false false false (shiftedOut op s.a), m := 1, t := 4 } := by
  rw [← shift_out op s.a s.flagC]; rfl

/-- Settles O30: each of the four is `rotateA` of its operation. -/
theorem accumulatorRotates : Obligations.AccumulatorRotates := by
  rintro s i op byte (⟨rfl, rfl, rfl⟩ | ⟨rfl, rfl, rfl⟩ | ⟨rfl, rfl, rfl⟩ | ⟨rfl, rfl, rfl⟩) <;>
    exact ⟨rfl, _, rotateA_eq _ s, shift_bit _ s.a s.flagC, rfl⟩

/-! ### The CB rotates, shifts and SWAP (R154 to R169) -/

/-- The flags of a CB shift, from its result and the bit it shifts out (R149). -/
theorem State.setShiftFlags_shift (s : State) (op : ShiftOp) (v : Byte) (cin : Bool) :
    s.setShiftFlags (shift op v cin) =
      { s with f := flagByte (decide ((shift op v cin).1 = 0#8)) false false (shiftedOut op v) } := by
  rw [← shift_out op v cin]; rfl

/-- Settles O31: the result is that of `shift`, whose bits `shift_bit` gives. -/
theorem shiftRegister : Obligations.ShiftRegister := by
  intro s code r
  refine ⟨encode_shiftR code r, _, shift_bit _ (s.r8 r) s.flagC, ?_⟩
  rw [exec_shiftR, shiftReg, State.setShiftFlags_shift]; rfl

/-- Settles O32: a read-modify-write with `shift`, the Carry taken before it. -/
theorem shiftMemory : Obligations.ShiftMemory := by
  intro s code
  refine ⟨encode_shiftAtHl code, fun accepts => ?_, fun refused => ?_⟩
  · rw [exec_shiftAtHl, shiftAtHl, State.modifyByteAt_eq, if_pos accepts]
    simp only [State.setShiftFlags_shift]
    exact ⟨_, _, shift_bit _ (s.readValue s.hl) s.flagC, rfl, storedAt_of_mem rfl (State.written_storedAt ..), rfl⟩
  · rw [exec_shiftAtHl, shiftAtHl, State.modifyByteAt_eq, refused]; rfl

/-! ### BIT (R170, R171) -/

/-- Settles O33: `setBitFlags` is the only effect, on the state itself or on the state after the read. -/
theorem bitTest : Obligations.BitTest := by
  intro s b r
  refine ⟨encode_bitR b r, encode_bitAtHl b, exec_bitR b r s, fun reads => ?_, fun refused => ?_⟩
  · rw [exec_bitAtHl, bitAtHl, State.withByteAt_eq, if_pos reads]; rfl
  · rw [exec_bitAtHl, bitAtHl, State.withByteAt_eq, refused]; rfl

/-! ### RES and SET (R172 to R175) -/

/-- The byte SET (`value`) or RES leaves of `v`. -/
def resSetByte (value : Bool) (b : Fin 8) (v : Byte) : Byte := if value then raiseBit b v else clearBit b v

theorem resSetByte_bit (value : Bool) (b : Fin 8) (v : Byte) (k : Nat) (hk : k < 8) :
    (resSetByte value b v).getLsbD k = if k = b.val then value else v.getLsbD k := by
  cases value with
  | false => exact clearBit_bit b v k hk
  | true => exact raiseBit_bit b v k hk

theorem exec_resSetR (value : Bool) (b : Fin 8) (r : R8) (s : State) :
    exec (if value then Instr.setR b r else Instr.resR b r) s =
      ifImplemented (opcodeOf (if value then 3 else 2) b.val r.code) s
        (.next ((s.setR8 r (resSetByte value b (s.r8 r))).charge .resSetReg)) := by
  cases value with
  | false => exact exec_resR b r s
  | true => exact exec_setR b r s

theorem exec_resSetAtHl (value : Bool) (b : Fin 8) (s : State) :
    exec (if value then Instr.setAtHl b else Instr.resAtHl b) s =
      ifImplemented (opcodeOf (if value then 3 else 2) b.val 6) s
        (s.modifyByteAt s.hl (resSetByte value b) fun _ s' => s'.charge .resSetMem) := by
  cases value with
  | false => exact exec_resAtHl b s
  | true => exact exec_setAtHl b s

/-- Settles O34: CB_RES_SET alone decides between `resSetByte` and the handler. -/
theorem resSetRegister : Obligations.ResSetRegister := by
  intro s b r value
  refine ⟨encode_resSetR value b r, fun implemented => ⟨_, resSetByte_bit value b (s.r8 r), ?_⟩, fun illegal => ?_⟩
  · rw [exec_resSetR, ifImplemented_implemented implemented]; rfl
  · rw [exec_resSetR, ifImplemented_illegal illegal]; rfl

/-- Settles O35: as on a register, with `resSetByte` in a read-modify-write. -/
theorem resSetMemory : Obligations.ResSetMemory := by
  intro s b value
  refine ⟨encode_resSetAtHl value b, fun implemented accepts => ?_, fun implemented refused => ?_, fun illegal => ?_⟩
  · rw [exec_resSetAtHl, ifImplemented_implemented implemented, State.modifyByteAt_eq, if_pos accepts]
    exact ⟨_, _, resSetByte_bit value b (s.readValue s.hl), rfl,
      storedAt_of_mem rfl (State.written_storedAt ..), rfl⟩
  · rw [exec_resSetAtHl, ifImplemented_implemented implemented, State.modifyByteAt_eq, refused]; rfl
  · rw [exec_resSetAtHl, ifImplemented_illegal illegal]; rfl

end Machine

end Sys2Proof
end

section
/-! Loads, stores, PUSH and POP (spec/44_load_store.md R180 to R207). -/

namespace Sys2Proof

/-! ### The bytes of the operand forms -/

/-- The code of a pair in the opcodes of PUSH and POP (R63). -/
def Rp2.code : Rp2 → Nat
  | .bc => 0 | .de => 1 | .hl => 2 | .af => 3

theorem Rp2.code_of_listed {p : Rp2} {code : Nat}
    (h : p = .bc ∧ code = 0 ∨ p = .de ∧ code = 1 ∨ p = .hl ∧ code = 2 ∨ p = .af ∧ code = 3) : code = p.code := by
  rcases h with ⟨rfl, rfl⟩ | ⟨rfl, rfl⟩ | ⟨rfl, rfl⟩ | ⟨rfl, rfl⟩ <;> rfl

theorem encode_push (p : Rp2) : encode (Instr.push p) = [BitVec.ofNat 8 (0xC5 + 16 * p.code)] := by cases p <;> rfl

theorem encode_pop (p : Rp2) : encode (Instr.pop p) = [BitVec.ofNat 8 (0xC1 + 16 * p.code)] := by cases p <;> rfl

theorem encode_ldRR (dst src : R8) : encode (Instr.ldRR dst src) = [opcodeOf 1 dst.code src.code] := by
  cases dst <;> cases src <;> rfl

theorem encode_ldRAtHl (dst : R8) : encode (Instr.ldRAtHl dst) = [opcodeOf 1 dst.code 6] := by cases dst <;> rfl

theorem encode_ldAtHlR (src : R8) : encode (Instr.ldAtHlR src) = [opcodeOf 1 6 src.code] := by cases src <;> rfl

theorem encode_ldRN (dst : R8) (n : Byte) : encode (Instr.ldRN dst n) = [opcodeOf 0 dst.code 6, n] := by
  cases dst <;> rfl

namespace Machine

/-! ### One access, answered or refused -/

section
variable {s : State} {a : Word}

theorem State.withByteAt_answered {k : Byte → State → State} (h : s.canRead a = true) :
    s.withByteAt a k = .next (k (s.readValue a) (s.accessed [a])) := by
  rw [State.withByteAt_eq, if_pos h]

theorem State.withByteAt_refused {k : Byte → State → State} (h : s.canRead a = false) :
    s.withByteAt a k = .fault .memFault := by
  rw [State.withByteAt_eq, h]; rfl

theorem State.storeThen_accepted {v : Byte} {k : State → State} (h : s.canWrite a = true) :
    s.storeThen a v k = .next (k (s.written a v)) := by
  rw [State.storeThen_eq, if_pos h]

theorem State.storeThen_refused {v : Byte} {k : State → State} (h : s.canWrite a = false) :
    s.storeThen a v k = .fault .memFault := by
  rw [State.storeThen_eq, h]; rfl

end

/-- The high-page address is the one at that distance above 0xFF00; the sum never carries (R197 to R200). -/
theorem eq_highPage_of_toNat {a : Word} {n : Byte} (h : a.toNat = 0xFF00 + n.toNat) : a = highPage n :=
  BitVec.eq_of_toNat_eq (h.trans (highPage_toNat n).symm)

/-! ### Stores of one byte (R182, R184, R187, R188, R195, R197, R199) -/

/-- What a store of `v` at `a` and a cost does: the byte and nothing else changes, or the write is refused. -/
theorem storeThen_charge (s : State) (a : Word) (v : Byte) (row : CostRow) :
    (s.canWrite a = true →
      ∃ t, s.storeThen a v (fun s' => s'.charge row) = .next t ∧ StoredAt s t a v ∧
        { t with mem := s.mem } = { s.accessed [a] with m := cycles row, t := 4 * cycles row }) ∧
    (s.canWrite a = false → s.storeThen a v (fun s' => s'.charge row) = .fault .memFault) :=
  ⟨fun accepts => ⟨_, State.storeThen_accepted accepts, storedAt_of_mem rfl (State.written_storedAt ..), rfl⟩,
    State.storeThen_refused⟩

/-- Settles O38: each form is the store `storeThen_charge` speaks of, at the address it forms. -/
theorem storeByte : Obligations.StoreByte := by
  rintro s src n nn i bytes a v m
    (⟨rfl, rfl, rfl, rfl, rfl⟩ | ⟨rfl, rfl, rfl, rfl, rfl⟩ | ⟨rfl, rfl, rfl, rfl, rfl⟩ | ⟨rfl, rfl, rfl, rfl, rfl⟩ |
      ⟨rfl, rfl, rfl, rfl, rfl⟩ | ⟨rfl, rfl, ha, rfl, rfl⟩ | ⟨rfl, rfl, ha, rfl, rfl⟩)
  · rw [exec_ldAtHlR]; exact ⟨encode_ldAtHlR src, storeThen_charge s s.hl (s.r8 src) .ldRegMem⟩
  · exact ⟨rfl, storeThen_charge s s.hl v .ldMemImm⟩
  · exact ⟨rfl, storeThen_charge s s.bc s.a .ldAccPair⟩
  · exact ⟨rfl, storeThen_charge s s.de s.a .ldAccPair⟩
  · exact ⟨rfl, storeThen_charge s a s.a .ldAccAbs⟩
  · obtain rfl := eq_highPage_of_toNat ha; exact ⟨rfl, storeThen_charge s (highPage n) s.a .ldhImm⟩
  · obtain rfl := eq_highPage_of_toNat ha; exact ⟨rfl, storeThen_charge s (highPage s.c) s.a .ldHighC⟩

/-! ### Loads between registers, from memory and immediate (R180, R181, R183, R185, R186, R193, R194, R196, R198, R200) -/

/-- Settles O36: a register written with its own value is as it was. -/
theorem loadRegister : Obligations.LoadRegister := by
  intro s dst src
  refine ⟨encode_ldRR dst src, exec_ldRR dst src s, ?_⟩
  rintro rfl
  rw [exec_ldRR, ldRegReg, State.setR8_self]; rfl

/-- What a load of A from `a` does: A and the cost and nothing else change, or the read is refused. -/
theorem ldAAt_outcome (s : State) (a : Word) (row : CostRow) :
    (s.canRead a = true →
      ldAAt a row s =
        .next { s.accessed [a] with a := s.readValue a, m := cycles row, t := 4 * cycles row }) ∧
    (s.canRead a = false → ldAAt a row s = .fault .memFault) :=
  ⟨State.withByteAt_answered, State.withByteAt_refused⟩

/-- Settles O37: the address is formed before the read, and so before the register is written. -/
theorem loadFromPair : Obligations.LoadFromPair := by
  intro s dst
  obtain ⟨fromBc, bcRefused⟩ := ldAAt_outcome s s.bc .ldAccPair
  obtain ⟨fromDe, deRefused⟩ := ldAAt_outcome s s.de .ldAccPair
  rw [exec_ldRAtHl]
  exact ⟨encode_ldRAtHl dst, rfl, rfl, State.withByteAt_answered, State.withByteAt_refused,
    fromBc, bcRefused, fromDe, deRefused⟩

/-- Settles O39: each form is the load `ldAAt_outcome` speaks of, at the address it forms. -/
theorem loadAbsolute : Obligations.LoadAbsolute := by
  rintro s n nn i bytes a m (⟨rfl, rfl, rfl, rfl⟩ | ⟨rfl, rfl, ha, rfl⟩ | ⟨rfl, rfl, ha, rfl⟩)
  · exact ⟨rfl, ldAAt_outcome s a .ldAccAbs⟩
  · obtain rfl := eq_highPage_of_toNat ha; exact ⟨rfl, ldAAt_outcome s (highPage n) .ldhImm⟩
  · obtain rfl := eq_highPage_of_toNat ha; exact ⟨rfl, ldAAt_outcome s (highPage s.c) .ldHighC⟩

/-- Settles O41: the meanings write the register, or the two halves of the pair. -/
theorem loadImmediate : Obligations.LoadImmediate := fun s dst n nn =>
  ⟨encode_ldRN dst n, rfl, rfl, rfl, rfl, exec_ldRN dst n s, exec_ldRpNn .bc nn s, exec_ldRpNn .de nn s,
    exec_ldRpNn .hl nn s, exec_ldRpNn .sp nn s⟩

/-! ### The accesses at HL that step HL (R189 to R192) -/

/-- What HL is stepped by: one up, or one down. -/
def hlStep (up : Bool) : Word := if up then 1 else -1

theorem add_hlStep_toNat (v : Word) (up : Bool) :
    (v + hlStep up).toNat = (v.toNat + if up then 1 else 65535) % 65536 := by
  cases up <;> exact BitVec.toNat_add ..

theorem exec_ldAtHlStepA (up : Bool) (s : State) :
    exec (if up then .ldAtHlIncA else .ldAtHlDecA) s = ldAtHlStepA (hlStep up) s := by cases up <;> rfl

theorem exec_ldAAtHlStep (up : Bool) (s : State) :
    exec (if up then .ldAAtHlInc else .ldAAtHlDec) s = ldAAtHlStep (hlStep up) s := by cases up <;> rfl

/-- HL, set to its step and then the cost taken, is the step of HL as a number. -/
theorem setHl_hlStep_charge_toNat (s u : State) (up : Bool) (row : CostRow) :
    ((u.setHl (s.hl + hlStep up)).charge row).hl.toNat = (s.hl.toNat + if up then 1 else 65535) % 65536 := by
  show (u.setHl (s.hl + hlStep up)).hl.toNat = _
  rw [State.setHl_hl, add_hlStep_toNat]

/-- Settles O40: the access comes first, at HL as it was, and leaves HL to be stepped. -/
theorem loadStepHl : Obligations.LoadStepHl := by
  intro s up
  rw [exec_ldAtHlStepA, exec_ldAAtHlStep]
  refine ⟨by cases up <;> rfl, by cases up <;> rfl, fun accepts => ?_, State.storeThen_refused,
    fun answers => ?_, State.withByteAt_refused⟩
  · exact ⟨_, State.storeThen_accepted accepts, storedAt_of_mem rfl (State.written_storedAt ..), rfl,
      setHl_hlStep_charge_toNat s _ up _, rfl⟩
  · exact ⟨_, State.withByteAt_answered answers, rfl, rfl, setHl_hlStep_charge_toNat s _ up _, rfl⟩

/-! ### The loads and stores of SP (R202, R203) -/

theorem exec_ldAtNnSp (nn : Word) (s : State) : exec (.ldAtNnSp nn) s = ldAbsSp nn s := rfl

/-- Settles O42: SP is stored as any word is, and the cost is all that is added. -/
theorem stackPointerLoads : Obligations.StackPointerLoads := by
  intro s nn
  obtain ⟨-, -, stores, refuses⟩ := wordIsTwoBytes s nn s.sp
  rw [exec_ldAtNnSp, ldAbsSp]
  refine ⟨rfl, rfl, rfl, fun low high => ?_, fun refused => ?_⟩
  · obtain ⟨t, stored, atLow, atHigh, elsewhere, frame⟩ := stores low high
    rw [stored]
    exact ⟨_, rfl, atLow, atHigh, elsewhere, congrArg (State.charge · .ldAbsSp) frame⟩
  · rw [refuses refused]; rfl

/-! ### PUSH and POP (R204 to R207) -/

/-- Settles O43: what the push leaves is `pushed_pushedAt`, and the cost is all that is added to it. -/
theorem pushStoresPair : Obligations.PushStoresPair := by
  intro s p code listed
  obtain rfl := Rp2.code_of_listed listed
  rw [exec_push, pushPair_eq]
  refine ⟨encode_push p, fun accepts => ?_, fun refused => by rw [refused]; rfl⟩
  rw [if_pos accepts]
  have frame := congrArg (State.charge · .push) (pushed_frame s (s.rp2 p))
  exact ⟨_, rfl, pushedAt_of_mem (State.charge_mem _ _) (pushed_pushedAt s (s.rp2 p)), frame⟩

/-- The state with these bytes in the halves of a pair; F takes the upper four bits (R207). -/
def State.setHalves (s : State) (p : Rp2) (hi lo : Byte) : State :=
  match p with
  | .bc => { s with b := hi, c := lo }
  | .de => { s with d := hi, e := lo }
  | .hl => { s with h := hi, l := lo }
  | .af => { s with a := hi, f := lo &&& 0xF0#8 }

theorem State.setRp2_joinBytes (s : State) (p : Rp2) (hi lo : Byte) :
    s.setRp2 p (joinBytes hi lo) = s.setHalves p hi lo := by
  cases p <;> simp only [State.setRp2, State.setHl, hiByte_joinBytes, loByte_joinBytes] <;> rfl

/-- Settles O44: the word popped goes to the pair by its two bytes. -/
theorem popLoadsPair : Obligations.PopLoadsPair := by
  intro s p code listed
  obtain rfl := Rp2.code_of_listed listed
  rw [exec_pop, popPair_eq]
  refine ⟨encode_pop p, fun answers => ?_, fun refused => by rw [refused]; rfl⟩
  rw [if_pos answers, State.stackTop, State.setRp2_joinBytes]
  cases p <;> rfl

end Machine

end Sys2Proof
end

section
/-! Jumps, calls, returns, restarts and machine control (spec/45_control_flow.md R220 to R236). -/

namespace Sys2Proof

theorem encode_rst (y : Fin 8) : encode (Instr.rst y) = [opcodeOf 3 y.val 7] := by fin_cases y <;> rfl

namespace Machine

/-! ### Conditions (R220) -/

/-- A flag is set exactly when F has a bit in common with the mask of the flag's bit. -/
theorem State.getFlag_iff_mask (s : State) (k : Flag) :
    s.getFlag k = true ↔ s.f &&& BitVec.twoPow 8 k.bit ≠ 0#8 := by
  rw [State.getFlag, BitVec.and_twoPow]
  cases s.f.getLsbD k.bit <;> cases k <;> decide

theorem State.not_getFlag_iff_mask (s : State) (k : Flag) :
    (!s.getFlag k) = true ↔ s.f &&& BitVec.twoPow 8 k.bit = 0#8 := by
  rw [Bool.not_eq_true', ← Bool.not_eq_true, s.getFlag_iff_mask k, not_not]

/-- Settles O19: each condition is a flag of F or its negation, and 0x80 and 0x10 are the masks of bits 7 and 4. -/
theorem conditionsReadFlags : Obligations.ConditionsReadFlags := fun s =>
  ⟨s.not_getFlag_iff_mask .zero, s.getFlag_iff_mask .zero, s.not_getFlag_iff_mask .carry, s.getFlag_iff_mask .carry⟩

/-! ### Jumps (R221 to R226) -/

/-- Settles O45: the condition alone chooses between the jump and its cost. -/
theorem jumps : Obligations.Jumps := by
  intro s cc nn
  rw [exec_jpIf, jumpAbsIf]
  exact ⟨rfl, rfl, rfl, rfl, rfl, rfl, rfl, fun taken => by rw [taken]; rfl,
    fun notTaken => by rw [notTaken]; rfl, rfl⟩

theorem exec_djnzE (e : Byte) (s : State) : exec (.djnzE e) s = decJumpNonZero e s := rfl

/-- DJNZ falls through exactly when B is 1, as then B decremented is zero (R226). -/
theorem decJumpNonZero_eq (e : Byte) (s : State) :
    decJumpNonZero e s =
      if s.b = 1#8 then .next (({ s with b := 0#8 } : State).charge (.djnz false))
      else .next ((({ s with b := s.b - 1#8 } : State).setPc (s.relTarget e)).charge (.djnz true)) := by
  by_cases one : s.b = 1#8
  · have zero : s.b - 1#8 = 0#8 := sub_eq_zero.mpr one
    rw [if_pos one, ← zero]
    exact if_pos zero
  · rw [if_neg one]
    exact if_neg (sub_ne_zero.mpr one)

/-- Settles O46: every taken form sets PC to the same target, the sum of `sext16_toNat`. -/
theorem relativeJumps : Obligations.RelativeJumps := by
  intro s cc e
  rw [exec_jrIf, jumpRelIf, exec_djnzE, decJumpNonZero_eq]
  refine ⟨rfl, rfl, rfl, rfl, rfl, rfl, s.relTarget e, sext16_toNat e s.pc, rfl, fun taken => by rw [taken]; rfl,
    fun notTaken => by rw [notTaken]; rfl, fun notOne => ?_, fun one => ?_⟩
  · rw [if_neg notOne]; rfl
  · rw [if_pos one]; rfl

/-! ### Calls, returns and restarts (R227 to R232) -/

section
variable {s : State} {target : Word} {row : CostRow} {k : State → State}

/-- An accepted call pushes PC and goes to the target; the frame lists all else it changes. -/
theorem callTo_accepted (accepts : s.canPush = true) :
    ∃ t, callTo target row s = .next t ∧ PushedAt s t s.pc ∧ t.pc = target ∧
      { t with mem := s.mem } =
        ({ s.accessed [s.sp - 1, s.sp - 2] with sp := s.sp - 2, pc := target } : State).charge row :=
  ⟨_, (callTo_eq ..).trans (if_pos accepts), pushedAt_of_mem rfl (pushed_pushedAt s s.pc), rfl,
    congrArg (fun u => (u.setPc target).charge row) (pushed_frame s s.pc)⟩

theorem callTo_refused (refused : s.canPush = false) : callTo target row s = .fault .memFault := by
  rw [callTo_eq, refused]; rfl

theorem returnWith_answered (answers : s.canPop = true) :
    returnWith row k s =
      .next ((k (((s.accessed [s.sp, s.sp + 1]).setSp (s.sp + 2)).setPc s.stackTop)).charge row) := by
  rw [returnWith_eq, if_pos answers]

theorem returnWith_refused (refused : s.canPop = false) : returnWith row k s = .fault .memFault := by
  rw [returnWith_eq, refused]; rfl

end

/-- Settles O47: CALL nn is the call of `callTo_accepted`, and so is CALL cc,nn when its condition holds. -/
theorem calls : Obligations.Calls := by
  intro s cc nn called
  have accepted {row : CostRow} (cost : cycles row = 6) (accepts : s.canPush = true) : called (callTo nn row s) := by
    obtain ⟨t, reached, push, -, frame⟩ := callTo_accepted (target := nn) (row := row) accepts
    rw [State.charge, cost] at frame
    exact ⟨t, reached, push, frame⟩
  rw [exec_callIf, callAbsIf]
  refine ⟨rfl, rfl, rfl, rfl, rfl, accepted rfl, callTo_refused, fun taken => ?_, fun taken => ?_,
    fun notTaken => by rw [notTaken]; rfl⟩
  · rw [if_pos taken]; exact accepted rfl
  · rw [if_pos taken]; exact callTo_refused

theorem exec_ret (s : State) : exec .ret s = returnPop s := rfl

theorem exec_reti (s : State) : exec .reti s = returnEnable s := rfl

/-- Settles O48: the three forms return alike, RET cc when its condition holds. -/
theorem returns : Obligations.Returns := by
  intro s cc
  rw [exec_ret, returnPop, exec_reti, returnEnable, exec_retIf, returnIf]
  refine ⟨rfl, rfl, rfl, rfl, rfl, rfl, fun answers => ⟨returnWith_answered answers, returnWith_answered answers, ?_⟩,
    fun refused => ⟨returnWith_refused refused, returnWith_refused refused, ?_⟩, fun notTaken => by rw [notTaken]; rfl⟩
  · intro taken; rw [if_pos taken]; exact returnWith_answered answers
  · intro taken; rw [if_pos taken]; exact returnWith_refused refused

theorem restartVector_toNat (y : Fin 8) : (restartVector y).toNat = 8 * y.val :=
  Nat.mod_eq_of_lt (by omega)

/-- Settles O49: a restart is a call to its vector. -/
theorem restarts : Obligations.Restarts := by
  intro s y
  rw [exec_rst, restart]
  refine ⟨encode_rst y, fun accepts => ?_, callTo_refused⟩
  obtain ⟨t, reached, push, target, frame⟩ := callTo_accepted (target := restartVector y) (row := .rst) accepts
  rw [← target] at frame
  exact ⟨t, reached, push, target ▸ restartVector_toNat y, frame⟩

/-! ### Machine control (R233 to R236) -/

/-- Settles O50: the state HALT leaves is held, and `step_held` says what a step of it does. -/
theorem machineControl : Obligations.MachineControl := fun _ =>
  ⟨rfl, rfl, rfl, rfl, rfl, rfl, rfl, _, rfl, rfl, step_held rfl⟩

end Machine

end Sys2Proof
end

section
/-! The exception IllegalOpcode, the conditions of a step and the host's operations (spec/60_exceptions.md R260 to
R276). -/

namespace Sys2Proof.Machine

/-! ### The illegal bytes -/

theorem isIllegalSlot_of_mem {byte : Byte} (h : byte ∈ illegalPrimaryBytes) :
    IsIllegalSlot (decodeBytes byte 0 0) byte := by
  unfold illegalPrimaryBytes at h
  fin_cases h <;> exact ⟨rfl, rfl, rfl, fun _ => rfl⟩

/-- A step at one of the eleven bytes, whatever MEM answers at the bytes behind it (R268). -/
theorem step_illegal_primary {s : State} (held : s.haltedOrStopped = false) (h0 : s.canRead s.pc = true)
    (hop : s.readValue s.pc ∈ illegalPrimaryBytes) :
    step s = .next { s.accessed [s.pc] with
      pc := s.pc + 1, r := s.r + 1, stop := true, m := 0, t := 0,
      reports := s.reports ++ [⟨s.pc, s.readValue s.pc⟩] } :=
  (isIllegalSlot_of_mem hop).step_taken held h0 rfl

theorem mem_illegalPrimaryBytes_of_length_one {op : Byte} {x : CbResSet} (len : instrLength op = 1)
    (h : isIllegal (decodeBytes op 0 0) x = true) : op ∈ illegalPrimaryBytes := by
  cases x <;> (revert op; decide)

theorem illegal_decodeCb {op2 : Byte} {x : CbResSet} (h : isIllegal (decodeCb op2) x = true) :
    0x80 ≤ op2.toNat ∧ x = .illegal := by
  cases x <;> (revert op2; decide)

theorem legal_of_byteOperand {op : Byte} (h : op ∈ byteOperandOpcodes) (n : Byte) (x : CbResSet) :
    isIllegal (decodeBytes op n 0) x = false := by
  unfold byteOperandOpcodes at h
  fin_cases h <;> rfl

theorem legal_of_wordOperand {op : Byte} (h : op ∈ wordOperandOpcodes) (lo hi : Byte) (x : CbResSet) :
    isIllegal (decodeBytes op lo hi) x = false := by
  unfold wordOperandOpcodes at h
  fin_cases h <;> rfl

/-- Bytes that decode to the illegal-opcode handler begin with one of the eleven, or name a RES or SET that is not
implemented (R70, R71). -/
theorem illegal_decodeBytes {b0 b1 b2 : Byte} {x : CbResSet} (h : isIllegal (decodeBytes b0 b1 b2) x = true) :
    b0 ∈ illegalPrimaryBytes ∨ (b0 = 0xCB#8 ∧ 0x80 ≤ b1.toNat ∧ x = .illegal) := by
  rcases instrLength_cases b0 with one | two | three
  · rw [decodeBytes_of_length_one one] at h
    exact .inl (mem_illegalPrimaryBytes_of_length_one one h)
  · rw [decodeBytes_of_length_two two] at h
    rcases (instrLength_eq_two_iff b0).mp two with rfl | operand
    · exact .inr ⟨rfl, illegal_decodeCb h⟩
    · rw [legal_of_byteOperand operand] at h; cases h
  · rw [legal_of_wordOperand ((instrLength_eq_three_iff b0).mp three)] at h; cases h

/-! ### Reports -/

/-- No report is added but with `stop`. -/
def KeepsReports (s t : State) : Prop := t.stop = false → t.reports = s.reports

section
variable {s : State}

theorem KeepsReports.of_eq {u : State} (h : u.reports = s.reports := by simp) : KeepsReports s u := fun _ => h

theorem KeepsReports.raiseIllegal (a : Word) (v : Byte) : KeepsReports s (s.raiseIllegal a v) := nofun

theorem ifImplemented_keepsReports (op2 : Byte) {x : Res} (h : EndsIn (KeepsReports s) x) :
    EndsIn (KeepsReports s) (ifImplemented op2 s x) := by
  cases hs : s.cbResSet with
  | illegal => rw [ifImplemented_illegal hs]; exact endsIn_next (.raiseIllegal _ _)
  | implemented => rwa [ifImplemented_implemented hs]

theorem ldAAt_keepsReports (a : Word) (row : CostRow) : EndsIn (KeepsReports s) (ldAAt a row s) :=
  endsIn_withByteAt .of_eq

theorem ldAAtHlStep_keepsReports (step : Word) : EndsIn (KeepsReports s) (ldAAtHlStep step s) :=
  endsIn_withByteAt .of_eq

theorem ldAtA_keepsReports (a : Word) (row : CostRow) : EndsIn (KeepsReports s) (ldAtA a row s) :=
  endsIn_storeThen .of_eq

theorem ldAtHlStepA_keepsReports (step : Word) : EndsIn (KeepsReports s) (ldAtHlStepA step s) :=
  endsIn_storeThen .of_eq

theorem incMem_keepsReports : EndsIn (KeepsReports s) (incMem s) := endsIn_modifyByteAt .of_eq

theorem decMem_keepsReports : EndsIn (KeepsReports s) (decMem s) := endsIn_modifyByteAt .of_eq

theorem callTo_keepsReports (target : Word) (row : CostRow) : EndsIn (KeepsReports s) (callTo target row s) := by
  rw [callTo_eq]; exact endsIn_orFault .of_eq

theorem returnWith_keepsReports (row : CostRow) {k : State → State} (h : ∀ u, (k u).reports = u.reports) :
    EndsIn (KeepsReports s) (returnWith row k s) := by
  rw [returnWith_eq]; exact endsIn_orFault (.of_eq (h _))

theorem resReg_keepsReports (b : Fin 8) (r : R8) : EndsIn (KeepsReports s) (resReg b r s) :=
  ifImplemented_keepsReports _ (endsIn_next .of_eq)

theorem setReg_keepsReports (b : Fin 8) (r : R8) : EndsIn (KeepsReports s) (setReg b r s) :=
  ifImplemented_keepsReports _ (endsIn_next .of_eq)

theorem resAtHl_keepsReports (b : Fin 8) : EndsIn (KeepsReports s) (resAtHl b s) :=
  ifImplemented_keepsReports _ (endsIn_modifyByteAt .of_eq)

theorem setAtHl_keepsReports (b : Fin 8) : EndsIn (KeepsReports s) (setAtHl b s) :=
  ifImplemented_keepsReports _ (endsIn_modifyByteAt .of_eq)

theorem cbDispatch_keepsReports (op2 : Byte) : EndsIn (KeepsReports s) (cbDispatch op2 s) := by
  unfold cbDispatch
  generalize operandOfCode (fieldZ op2) = o
  generalize fieldX op2 = x
  rcases x with _ | _ | _ | x <;> cases o
  · exact endsIn_next .of_eq
  · exact endsIn_modifyByteAt .of_eq
  · exact endsIn_next .of_eq
  · exact endsIn_withByteAt .of_eq
  · exact resReg_keepsReports _ _
  · exact resAtHl_keepsReports _
  · exact setReg_keepsReports _ _
  · exact setAtHl_keepsReports _

end

/-- No instruction but the illegal-opcode handler reports (R263). -/
theorem exec_keepsReports (i : Instr) (s : State) : EndsIn (KeepsReports s) (exec i s) := by
  induction i using Instr.byShape with
  | nop | rlca | rrca | rla | rra | daa | cpl | scf | ccf | halt | di | ei | jpHl | ldSpHl
  | jrE _ | jpNn _ | addSpE _ | ldHlSpE _ => exact endsIn_next (.of_eq rfl)
  | ldRpNn _ _ | ldRN _ _ | ldRR _ _ | aluN _ _ | aluR _ _ | incR _ | decR _ | incRp _ | decRp _ | addHlRp _
  | shiftR _ _ | bitR _ _ =>
    simp only [exec_ldRpNn, exec_ldRN, exec_ldRR, exec_aluN, exec_aluR, exec_incR, exec_decR, exec_incRp, exec_decRp,
      exec_addHlRp, exec_shiftR, exec_bitR]
    exact endsIn_next .of_eq
  | djnzE e => exact endsIn_ite (endsIn_next .of_eq) (endsIn_next .of_eq)
  | jrIf _ _ | jpIf _ _ =>
    simp only [exec_jrIf, exec_jpIf]; exact endsIn_ite (endsIn_next .of_eq) (endsIn_next .of_eq)
  | callIf cc nn => rw [exec_callIf]; exact endsIn_ite (callTo_keepsReports _ _) (endsIn_next .of_eq)
  | retIf cc => rw [exec_retIf]; exact endsIn_ite (returnWith_keepsReports _ fun _ => rfl) (endsIn_next .of_eq)
  | callNn nn => exact callTo_keepsReports _ _
  | rst y => rw [exec_rst]; exact callTo_keepsReports _ _
  | ret => exact returnWith_keepsReports _ fun _ => rfl
  | reti => exact returnWith_keepsReports (k := fun u => { u with ime := true }) _ fun _ => rfl
  | push p => rw [exec_push, pushPair_eq]; exact endsIn_orFault .of_eq
  | pop p => rw [exec_pop, popPair_eq]; exact endsIn_orFault .of_eq
  | ldRAtHl _ | aluAtHl _ | bitAtHl _ =>
    simp only [exec_ldRAtHl, exec_aluAtHl, exec_bitAtHl]; exact endsIn_withByteAt .of_eq
  | ldAAtBc | ldAAtDe | ldAAtC | ldhAAtN _ | ldAAtNn _ => exact ldAAt_keepsReports _ _
  | ldAAtHlInc | ldAAtHlDec => exact ldAAtHlStep_keepsReports _
  | ldAtHlR src => rw [exec_ldAtHlR]; exact endsIn_storeThen .of_eq
  | ldAtBcA | ldAtDeA | ldAtCA | ldhAtNA _ | ldAtNnA _ => exact ldAtA_keepsReports _ _
  | ldAtHlN _ => exact endsIn_storeThen .of_eq
  | ldAtHlIncA | ldAtHlDecA => exact ldAtHlStepA_keepsReports _
  | ldAtNnSp nn => rw [exec_ldAtNnSp, ldAbsSp_eq]; exact endsIn_orFault .of_eq
  | incAtHl => exact incMem_keepsReports
  | decAtHl => exact decMem_keepsReports
  | shiftAtHl op => rw [exec_shiftAtHl]; exact endsIn_modifyByteAt .of_eq
  | prefixCb opcode2 => exact cbDispatch_keepsReports opcode2
  | resR b r => rw [exec_resR]; exact resReg_keepsReports b r
  | setR b r => rw [exec_setR]; exact setReg_keepsReports b r
  | resAtHl b => rw [exec_resAtHl]; exact resAtHl_keepsReports b
  | setAtHl b => rw [exec_setAtHl]; exact setAtHl_keepsReports b
  | illegalD3 | illegalDB | illegalDD | illegalE3 | illegalE4 | illegalEB | illegalEC | illegalED | illegalF4
  | illegalFC | illegalFD => exact endsIn_next (.raiseIllegal _ _)

/-! ### What a step meets -/

/-- A step that reaches a next state got the bytes it needed, and ran what they decode to. -/
theorem step_next_decoded {s t : State} (held : s.haltedOrStopped = false) (h : step s = .next t) :
    s.canRead s.pc = true ∧ (2 ≤ instrLength (s.readValue s.pc) → s.canRead (s.pc + 1) = true) ∧
      ∃ u, exec (decodeBytes (s.readValue s.pc) (s.readValue (s.pc + 1)) (s.readValue (s.pc + 2)))
          ((s.accessed (s.fetchAddresses (instrLength (s.readValue s.pc)))).advance
            (instrLength (s.readValue s.pc))) = .next u ∧ t = u.account := by
  rcases step_next_cases h with ⟨held', -⟩ | ⟨got, u, -, fetched, ran, account⟩
  · rw [held] at held'; cases held'
  · rw [State.fetch_eq] at fetched
    split at fetched
    · next answered =>
      obtain ⟨h0, h1, -⟩ := answered
      cases fetched
      exact ⟨h0, h1, u, ran, account⟩
    · cases fetched

/-- Settles O12: the faults are those of the fetch, and an illegal primary byte is all its instruction. -/
theorem conditionsInOrder : Obligations.ConditionsInOrder := fun _ held =>
  ⟨fun refused => step_of_fetch_none held (State.fetch_refused_opcode refused),
    fun _ hop refused => step_of_prefix_refused held hop refused,
    fun h0 hop => ⟨_, step_illegal_primary held h0 hop, rfl, rfl⟩,
    fun _ len refused => step_of_fetch_none held (State.fetch_refused_second len refused),
    fun _ len refused => step_of_fetch_none held (State.fetch_refused_third len refused)⟩

/-- Settles O52: what is neither kind of byte decodes to an instruction that leaves `stop`, and so reports nothing. -/
theorem illegalOpcodeCauses : Obligations.IllegalOpcodeCauses := by
  intro s t held h
  obtain ⟨h0, h1, u, ran, account⟩ := step_next_decoded held h
  refine ⟨fun primary => ?_, fun ⟨hop, upper, setting⟩ => ?_, fun notPrimary notExtended => ?_⟩
  · rw [step_illegal_primary held h0 primary] at h
    cases h; exact ⟨rfl, rfl⟩
  · rw [step_illegal_cb held h0 (h1 (by rw [hop]; decide)) hop rfl upper setting] at h
    cases h; exact ⟨rfl, rfl⟩
  · obtain ⟨-, running⟩ := Bool.or_eq_false_iff.mp held
    have stop : u.stop = false := (exec_effect _ _ _ ran).stop.trans <|
      Bool.or_eq_false_iff.mpr ⟨running, Bool.eq_false_iff.mpr fun illegal =>
        (illegal_decodeBytes illegal).elim notPrimary notExtended⟩
    have keeps := exec_keepsReports _ _ _ ran
    rw [account]
    exact ⟨keeps stop, stop⟩

/-! ### The host -/

/-- A push does not read or write IME and `halt`. -/
theorem pushed_hold (s : State) (halt ime : Bool) (v : Word) :
    pushed { s with halt := halt, ime := ime } v = { pushed s v with halt := halt, ime := ime } := rfl

/-- All that an entry at `v` does beside its push, of which `u` is the state left (R267). -/
def State.entered (u : State) (v : InterruptVector) : State :=
  { u with
    halt := false, ime := false, pc := vectorAddress v, m := 4, t := 16, clkM := u.clkM + 4, clkT := u.clkT + 16 }

theorem State.entered_eq (u : State) (v : InterruptVector) :
    ((({ u with halt := false, ime := false } : State).setPc (vectorAddress v)).charge .interruptEntry).account =
      u.entered v := rfl

theorem State.interruptEntry_accepted {s : State} (v : InterruptVector) (running : s.stop = false)
    (accepts : s.canPush = true) : s.interruptEntry v = .next ((pushed s s.pc).entered v) := by
  have notStopped : ¬s.stop = true := Bool.eq_false_iff.mp running
  rw [State.interruptEntry_eq, if_neg notStopped, if_pos accepts, pushed_hold, State.entered_eq]

/-- Settles O54: what an entry does beside its push is done to the push and to its frame alike. -/
theorem interruptEntryEffect : Obligations.InterruptEntryEffect := by
  intro s v address listed
  have vector : vectorAddress v = BitVec.ofNat 16 address := by
    rcases listed with ⟨rfl, rfl⟩ | ⟨rfl, rfl⟩ | ⟨rfl, rfl⟩ | ⟨rfl, rfl⟩ | ⟨rfl, rfl⟩ <;> rfl
  rw [← vector]
  refine ⟨fun stopped => ?_, fun running accepts => ?_, fun running refused => ?_⟩
  · rw [State.interruptEntry_eq, if_pos stopped]
  · exact ⟨_, State.interruptEntry_accepted v running accepts,
      pushedAt_of_mem (t := pushed s s.pc) rfl (pushed_pushedAt s s.pc),
      congrArg (State.entered · v) (pushed_frame s s.pc)⟩
  · rw [State.interruptEntry_eq, running, refused]; rfl

/-- Resuming clears `stop`, so only `halt` still holds the core. -/
theorem State.hostResume_haltedOrStopped (s : State) : s.hostResume.haltedOrStopped = s.halt := Bool.or_false s.halt

/-- Settles O55: the handler left PC behind the byte or the bytes, and resuming does not move it. -/
theorem resumeAndStop : Obligations.ResumeAndStop := by
  intro s
  have resumed {t : State} (held : s.haltedOrStopped = false) (halt : t.halt = s.halt) :
      t.hostResume.haltedOrStopped = false :=
    t.hostResume_haltedOrStopped.trans (halt.trans (Bool.or_eq_false_iff.mp held).1)
  refine ⟨rfl, rfl, step_held (Bool.or_true s.halt), fun _ => rfl, fun held h0 hop => ?_,
    fun held h0 h1 hop upper setting => ?_⟩
  · exact ⟨_, step_illegal_primary held h0 hop, rfl, resumed held rfl⟩
  · exact ⟨_, step_illegal_cb held h0 h1 hop rfl upper setting, rfl, resumed held rfl⟩

end Sys2Proof.Machine
end

section
/-! What reset installs (spec/70_reset_and_hazards.md R281), and what a taken branch costs beside one not taken (R288):
each conditional form ends with the states of the row of CYCLES that its condition chooses. -/

namespace Sys2Proof.Machine

/-- Settles O5: a reset core is `State.resetWith init`, which is not held, over the MEM and the reports it had. -/
theorem resetWritesEverything : Obligations.ResetWritesEverything := fun _ _ => ⟨rfl, rfl⟩

/-- T holds the cost of `row`: its M-cycles at four T-states each (R22, R87). -/
def Charged (row : CostRow) (t : State) : Prop := t.t = 4 * cycles row

theorem next_charged (s : State) (row : CostRow) : EndsIn (Charged row) (.next (s.charge row)) :=
  endsIn_next (s.charge_t row)

theorem callTo_charged (target : Word) (row : CostRow) (s : State) : EndsIn (Charged row) (callTo target row s) := by
  rw [callTo_eq]; exact endsIn_orFault (State.charge_t _ row)

theorem returnWith_charged (row : CostRow) (k : State → State) (s : State) :
    EndsIn (Charged row) (returnWith row k s) := by
  rw [returnWith_eq]; exact endsIn_orFault (State.charge_t _ row)

/-- A branch that charges its row taken and not taken charges the row its condition chooses. -/
theorem ite_charged {row : Bool → CostRow} {taken : Bool} {x y : Res} (hx : EndsIn (Charged (row true)) x)
    (hy : EndsIn (Charged (row false)) y) : EndsIn (Charged (row taken)) (if taken then x else y) := by
  cases taken with
  | true => exact hx
  | false => exact hy

theorem exec_jrIf_charged (cc : Cond) (e : Byte) (s : State) :
    EndsIn (Charged (.jrCond (s.cond cc))) (exec (Instr.jrIf cc e) s) := by
  rw [exec_jrIf]; exact ite_charged (next_charged _ _) (next_charged _ _)

theorem exec_jpIf_charged (cc : Cond) (nn : Word) (s : State) :
    EndsIn (Charged (.jpCond (s.cond cc))) (exec (Instr.jpIf cc nn) s) := by
  rw [exec_jpIf]; exact ite_charged (next_charged _ _) (next_charged _ _)

theorem exec_callIf_charged (cc : Cond) (nn : Word) (s : State) :
    EndsIn (Charged (.callCond (s.cond cc))) (exec (Instr.callIf cc nn) s) := by
  rw [exec_callIf]; exact ite_charged (callTo_charged nn _ s) (next_charged _ _)

theorem exec_retIf_charged (cc : Cond) (s : State) :
    EndsIn (Charged (.retCond (s.cond cc))) (exec (Instr.retIf cc) s) := by
  rw [exec_retIf]; exact ite_charged (returnWith_charged _ id s) (next_charged _ _)

/-- DJNZ is taken exactly when B is not 1. -/
theorem exec_djnzE_charged (e : Byte) (s : State) :
    EndsIn (Charged (.djnz (s.b != 1#8))) (exec (.djnzE e) s) := by
  rw [exec_djnzE, decJumpNonZero_eq]
  by_cases one : s.b = 1#8
  · rw [if_pos one, one]; exact next_charged _ _
  · rw [if_neg one, bne_iff_ne.mpr one]; exact next_charged _ _

/-- Outcomes of two charged branches differ in T as their rows differ in the table CYCLES. -/
theorem t_eq_add_of_charged {row₁ row₂ : CostRow} {x₁ x₂ : Res} {t₁ t₂ : State} {extra : Nat}
    (h₁ : EndsIn (Charged row₁) x₁) (h₂ : EndsIn (Charged row₂) x₂)
    (cost : 4 * cycles row₁ = 4 * cycles row₂ + extra) (ran₁ : x₁ = .next t₁) (ran₂ : x₂ = .next t₂) :
    t₁.t = t₂.t + extra := by
  have charged₁ : t₁.t = 4 * cycles row₁ := h₁ t₁ ran₁
  have charged₂ : t₂.t = 4 * cycles row₂ := h₂ t₂ ran₂
  rw [charged₁, charged₂, cost]

/-- Settles O60: the two outcomes of each form are charged a taken and an untaken row of CYCLES. -/
theorem takenCostsMore : Obligations.TakenCostsMore := by
  intro s₁ s₂ t₁ t₂ cc nn e
  refine ⟨fun taken notTaken => ⟨?jr, ?jp, ?call, ?ret⟩, fun notOne one => ?djnz⟩
  case jr =>
    exact t_eq_add_of_charged (exec_jrIf_charged cc e s₁) (exec_jrIf_charged cc e s₂) (by rw [taken, notTaken]; rfl)
  case jp =>
    exact t_eq_add_of_charged (exec_jpIf_charged cc nn s₁) (exec_jpIf_charged cc nn s₂) (by rw [taken, notTaken]; rfl)
  case call =>
    exact t_eq_add_of_charged (exec_callIf_charged cc nn s₁) (exec_callIf_charged cc nn s₂)
      (by rw [taken, notTaken]; rfl)
  case ret =>
    exact t_eq_add_of_charged (exec_retIf_charged cc s₁) (exec_retIf_charged cc s₂) (by rw [taken, notTaken]; rfl)
  case djnz =>
    exact t_eq_add_of_charged (exec_djnzE_charged e s₁) (exec_djnzE_charged e s₂)
      (by rw [bne_iff_ne.mpr notOne, one]; rfl)

end Sys2Proof.Machine
end
